-- ==== Sys2Proof/Word.lean ====
section
/-! DEFINITION. The value types of the framer block (00_scope.md R12): every value is unsigned and of one of these
widths, or a tick value, which is a natural number kept below `2 ^ TICK_W` (log 11). -/

namespace Sys2Proof

/-- A byte: a device address, a device value, a status byte or a byte of the input stream (R12, R70). -/
abbrev Byte := BitVec 8

/-- The value of a data byte: a note number, a velocity, a raw address or a raw value (R12, R76). -/
abbrev Data := BitVec 7

/-- A tone period as the frequency ROM yields it (R12, R54). -/
abbrev Period := BitVec 16

/-- A slot index, one of 0, 1, 2 (R12, R21). -/
abbrev SlotIx := Fin 3

end Sys2Proof
end

