-- ==== Sys2Proof/Config.lean ====
section
/-! DEFINITION. The configuration record `CFG` it leaves to the
implementation (00_scope.md R8, with the constraints of R9), and the one configuration the reset state carries, which is opaque:
no value of it can be proved (log 1). The constants of R7 stand where they are used: in Decode.lean and
Machine/Operands.lean. -/

namespace Sys2Proof

/-- The three constant device addresses of one slot: level, tone-period low, tone-period high (10_state.md R24). -/
structure SlotAddrs where
  level : Byte
  flsb : Byte
  fmsb : Byte
deriving DecidableEq, Repr, Inhabited

/-- The configuration record `CFG` of 00_scope.md R8. Every value of this type meets the constraints of R9, and every
configuration that meets them is a value of it: `TICK_W` is `13 + tickExtra`, and a table entry has 12 bits
(DEDUCED from R9, log 2). No address is assumed distinct from another and `levelMax` may be `SILENCE` (R9 (c), (d)). -/
structure Cfg where
  /-- `TICK_W - 13`. -/
  tickExtra : Nat
  slot0 : SlotAddrs
  slot1 : SlotAddrs
  slot2 : SlotAddrs
  mixerAddr : Byte
  mixerVal : Byte
  levelMax : Byte
  /-- The 128 entries of the frequency ROM, 12 bits used of 16 (20_memory.md R53). -/
  ftab : Vector (BitVec 12) 128
deriving DecidableEq, Repr, Inhabited

/-- The configuration of the machine that `State.reset` describes. OPAQUE: the spec leaves every parameter of it open
(R8), so nothing can be proved about its value (log 1). -/
opaque Config.cfg : Cfg

/-- `FREE`: the note value that means a slot is free (R7, 10_state.md R22). -/
def Config.free : Data := 0#7

end Sys2Proof
end

