-- ==== Sys2Proof/Syntax.lean ====
section
/-! DEFINITION. The instructions: one constructor per row of spec/opcode_table.json, its fields as the row names them
(30_encoding.md R71 to R73, R78, R88). -/

namespace Sys2Proof

/-- The 16 operations of the block. The message rows stand for their two or three `BYTE` events, one
step each (R72, R73, R86). -/
inductive Instr where
  /-- RAW_WRITE (41_dispatcher.md R116): `a` device register address, `d` value. -/
  | rawWrite (a d : Data)
  /-- NOTE_ON (R113, R114): `c` channel, `n` note number, `v` velocity. -/
  | noteOn (c : BitVec 4) (n v : Data)
  /-- NOTE_OFF (R115): `c` channel, not 5; `n` note number; `v` velocity, ignored. -/
  | noteOff (c : BitVec 4) (n v : Data)
  /-- IGNORED (R119), command 0xA0. -/
  | ignoredA0 (c : BitVec 4) (x y : Data)
  /-- IGNORED (R119), command 0xB0. -/
  | ignoredB0 (c : BitVec 4) (x y : Data)
  /-- IGNORED (R119), command 0xC0. -/
  | ignoredC0 (c : BitVec 4) (x y : Data)
  /-- IGNORED (R119), command 0xD0. -/
  | ignoredD0 (c : BitVec 4) (x y : Data)
  /-- IGNORED (R119), command 0xE0. -/
  | ignoredE0 (c : BitVec 4) (x y : Data)
  /-- IGNORED (R119), command 0xF0. -/
  | ignoredF0 (c : BitVec 4) (x y : Data)
  /-- RS (40_step_and_framer.md R100): a running-status continuation, two data bytes. -/
  | rs (a b : Data)
  /-- STATUS (R95): `o` the command bits 6 to 4, `c` the channel nibble. -/
  | status (o : BitVec 3) (c : BitVec 4)
  /-- DATA_IDLE (R96): a data byte in phase `Idle`. -/
  | dataIdle (v : Data)
  /-- DATA1 (R97): a data byte in phase `AwaitingData(0)`. -/
  | data1 (v : Data)
  /-- DATA2 (R98): a data byte in phase `AwaitingData(1)`. -/
  | data2 (v : Data)
  /-- TICK (43_watchdog.md R150): the event `IDLE`. -/
  | tick
  /-- RESET (70_reset_and_hazards.md R191): the event `RESET`. -/
  | reset
deriving DecidableEq, Repr

end Sys2Proof
end

