-- ==== Sys2Proof/WellFormed.lean ====
section
/-! DEFINITION. Which instructions can be written (30_encoding.md R86). The widths of the fields are in the types; the
one constraint left is that Note Off on channel nibble 5 does not exist (R82, R87 (b)). -/

namespace Sys2Proof

/-- Whether the instruction has an encoding of its own: every one has, but NOTE_OFF on channel 5, whose bytes are those
of RAW_WRITE (R86, R87 (b)). -/
def Instr.wellFormed : Instr → Bool
  | .rawWrite _ _ => true
  | .noteOn _ _ _ => true
  | .noteOff c _ _ => c != 5#4
  | .ignoredA0 _ _ _ => true
  | .ignoredB0 _ _ _ => true
  | .ignoredC0 _ _ _ => true
  | .ignoredD0 _ _ _ => true
  | .ignoredE0 _ _ _ => true
  | .ignoredF0 _ _ _ => true
  | .rs _ _ => true
  | .status _ _ => true
  | .dataIdle _ => true
  | .data1 _ => true
  | .data2 _ => true
  | .tick => true
  | .reset => true

end Sys2Proof
end

