-- ==== Sys2Proof/Decode.lean ====
section
/-! DEFINITION. From bytes to instructions and back (30_encoding.md). A run of events is one row of the opcode table, or it
is rejected by name; decoding one event is total, because no encoding of the block is illegal (R79, R94). -/

namespace Sys2Proof

/-- The framer phase, which plays the part of a program counter (10_state.md R32). -/
inductive Phase where
  /-- No status byte accumulated. -/
  | idle
  /-- A status byte is latched, no data byte of the current message received. -/
  | awaiting0
  /-- A status byte is latched, the first data byte received. -/
  | awaiting1
deriving DecidableEq, Repr

/-- An event of the environment: `BYTE(b)` and `IDLE` of 00_scope.md R15, and the event `RESET` of
70_reset_and_hazards.md R191. A step takes exactly one, so it consumes at most one byte (40_step_and_framer.md R91). -/
inductive Input where
  | byte (b : Byte)
  | idle
  | reset
deriving DecidableEq, Repr

/-- Why a word or a run of events is no row of the opcode table. -/
inductive DecodeError where
  /-- The number of bits is not a whole number of bytes. -/
  | notWholeBytes
  /-- The word has more bits than its format. -/
  | tooWide
  /-- Three bytes that are not status, data, data (R72). -/
  | notStatusDataData
  /-- Two bytes that are not data, data (R73). -/
  | notDataData
  /-- No row stands for a run of events of this length and kind (R71 to R73, R88). -/
  | noSuchRow
deriving DecidableEq, Repr

/-- `ST_RAW_WRITE`: the status byte of the raw register write (00_scope.md R7). -/
def stRawWrite : Byte := 0x85#8

/-- `CMD_NOTE_ON` (00_scope.md R7). -/
def cmdNoteOn : Byte := 0x90#8

/-- `CMD_NOTE_OFF` (00_scope.md R7). -/
def cmdNoteOff : Byte := 0x80#8

/-! ### Bytes and their fields (R70, R71, R75, R76) -/

/-- A status byte has bit 7 set; every other byte is a data byte (R70). -/
def isStatus (b : Byte) : Bool := b.getLsbD 7

/-- `op`, bits 6 to 4 of a status byte (R71). -/
def opField (b : Byte) : BitVec 3 := b.extractLsb' 4 3

/-- `ch`, bits 3 to 0 of a status byte (R71). -/
def chField (b : Byte) : BitVec 4 := b.extractLsb' 0 4

/-- `val`, bits 6 to 0 of a data byte (R71, R76). -/
def dataVal (b : Byte) : Data := b.extractLsb' 0 7

/-- The status byte with the given fields (format `S`, R71). -/
def statusByte (op : BitVec 3) (ch : BitVec 4) : Byte := 1#1 ++ op ++ ch

/-- The data byte with the given value (format `D`, R71). -/
def dataByte (d : Data) : Byte := 0#1 ++ d

/-- `command = byte & 0xF0`, the high nibble kept in place (R71, R75). -/
def command (st : Byte) : Byte := st &&& 0xF0#8

/-- `channel = byte & 0x0F`, not used for routing (R71, R75). -/
def channel (st : Byte) : Byte := st &&& 0x0F#8

/-! ### Decoding -/

/-- The row of one byte: STATUS in any phase, or the data row of the phase (R88, R94). -/
def decodeByte (ph : Phase) (b : Byte) : Instr :=
  if isStatus b then .status (opField b) (chField b)
  else
    match ph with
    | .idle => .dataIdle (dataVal b)
    | .awaiting0 => .data1 (dataVal b)
    | .awaiting1 => .data2 (dataVal b)

/-- The row of a full message, selected by the tests of R78 on the status byte, in their order: 0x85 first. -/
def decodeMessage (op : BitVec 3) (ch : BitVec 4) (d1 d2 : Data) : Instr :=
  let st := statusByte op ch
  if st = stRawWrite then .rawWrite d1 d2
  else if command st = cmdNoteOn then .noteOn ch d1 d2
  else if command st = cmdNoteOff then .noteOff ch d1 d2
  else if command st = 0xA0#8 then .ignoredA0 ch d1 d2
  else if command st = 0xB0#8 then .ignoredB0 ch d1 d2
  else if command st = 0xC0#8 then .ignoredC0 ch d1 d2
  else if command st = 0xD0#8 then .ignoredD0 ch d1 d2
  else if command st = 0xE0#8 then .ignoredE0 ch d1 d2
  else .ignoredF0 ch d1 d2

/-- The row that one event selects in a phase (R88). Total: every byte in every phase has a defined effect (R79, R94). -/
def decodeEvent (ph : Phase) : Input → Instr
  | .byte b => decodeByte ph b
  | .idle => .tick
  | .reset => .reset

/-- The row that a run of events is, read from the phase in which its first event is taken. One event is the row of R88.
Three bytes status, data, data are a full message, and two data bytes a running-status continuation (R57, R72, R73). -/
def decode (ph : Phase) : List Input → Except DecodeError Instr
  | [u] => .ok (decodeEvent ph u)
  | [.byte b1, .byte b2] =>
    if isStatus b1 || isStatus b2 then .error .notDataData
    else .ok (.rs (dataVal b1) (dataVal b2))
  | [.byte st, .byte b1, .byte b2] =>
    if !isStatus st || isStatus b1 || isStatus b2 then .error .notStatusDataData
    else .ok (decodeMessage (opField st) (chField st) (dataVal b1) (dataVal b2))
  | _ => .error .noSuchRow

/-! ### Words of the opcode table -/

/-- The bytes of a word of `k` bytes, the first byte leftmost, as R72 writes them. -/
def bytesOfWord : Nat → Nat → List Byte
  | 0, _ => []
  | k + 1, w => BitVec.ofNat 8 (w >>> (8 * k)) :: bytesOfWord k w

/-- The events of a word of `k` bytes: a `BYTE` event for each byte, and `IDLE`, the absence of a byte, when it has none
(00_scope.md R15; log 7). -/
def eventsOfWord : Nat → Nat → List Input
  | 0, _ => [.idle]
  | k + 1, w => (bytesOfWord (k + 1) w).map Input.byte

/-- The instruction a word of `nbits` bits is in a phase, its bits numbered as spec/opcode_table.json numbers them, or the
name of the reason it is none (log 7). -/
def decodeWord (ph : Phase) (nbits w : Nat) : Except DecodeError Instr :=
  if nbits % 8 ≠ 0 then .error .notWholeBytes
  else if 2 ^ nbits ≤ w then .error .tooWide
  else decode ph (eventsOfWord (nbits / 8) w)

/-- The instruction a word of the opcode table selects in the phase after reset, `Idle`. The three rows of format `D`
have one encoding and are told apart by the phase alone, and the two rows of format `EVENT` have no bits: an 8-bit data
word is DATA_IDLE here, and the empty word is TICK (log 7). -/
def decodeTableWord (nbits w : Nat) : Option Instr :=
  match decodeWord .idle nbits w with
  | .ok i => some i
  | .error _ => none

/-! ### Encoding -/

/-- The three `BYTE` events of a full message (R72, R86). -/
def messageEvents (op : BitVec 3) (ch : BitVec 4) (d1 d2 : Data) : List Input :=
  [.byte (statusByte op ch), .byte (dataByte d1), .byte (dataByte d2)]

/-- The events an instruction stands for, in the order they arrive (R57, R71 to R73, R78, R86, R88). -/
def encode : Instr → List Input
  | .rawWrite a d => messageEvents 0b000#3 0b0101#4 a d
  | .noteOn c n v => messageEvents 0b001#3 c n v
  | .noteOff c n v => messageEvents 0b000#3 c n v
  | .ignoredA0 c x y => messageEvents 0b010#3 c x y
  | .ignoredB0 c x y => messageEvents 0b011#3 c x y
  | .ignoredC0 c x y => messageEvents 0b100#3 c x y
  | .ignoredD0 c x y => messageEvents 0b101#3 c x y
  | .ignoredE0 c x y => messageEvents 0b110#3 c x y
  | .ignoredF0 c x y => messageEvents 0b111#3 c x y
  | .rs a b => [.byte (dataByte a), .byte (dataByte b)]
  | .status o c => [.byte (statusByte o c)]
  | .dataIdle v => [.byte (dataByte v)]
  | .data1 v => [.byte (dataByte v)]
  | .data2 v => [.byte (dataByte v)]
  | .tick => [.idle]
  | .reset => [.reset]

/-- The bytes an event brings: one, or none. -/
def eventBytes : Input → List Byte
  | .byte b => [b]
  | .idle => []
  | .reset => []

/-- The bytes of an instruction's encoding. -/
def encodeBytes (i : Instr) : List Byte := (encode i).flatMap eventBytes

/-- A run of bytes as one word, the first byte leftmost (R72). -/
def wordOfBytes : List Byte → Nat
  | [] => 0
  | b :: bs => b.toNat <<< (8 * bs.length) ||| wordOfBytes bs

/-- The number of bits of an instruction's encoding. -/
def encodeBits (i : Instr) : Nat := 8 * (encodeBytes i).length

/-- The word of an instruction, its bits numbered as spec/opcode_table.json numbers them. -/
def encodeWord (i : Instr) : Nat := wordOfBytes (encodeBytes i)

/-- Whether the instruction is the one its encoding selects in this phase: the three data rows belong to one phase each
(R88), every other row to any phase. -/
def phaseSelects (ph : Phase) : Instr → Bool
  | .rawWrite _ _ => true
  | .noteOn _ _ _ => true
  | .noteOff _ _ _ => true
  | .ignoredA0 _ _ _ => true
  | .ignoredB0 _ _ _ => true
  | .ignoredC0 _ _ _ => true
  | .ignoredD0 _ _ _ => true
  | .ignoredE0 _ _ _ => true
  | .ignoredF0 _ _ _ => true
  | .rs _ _ => true
  | .status _ _ => true
  | .dataIdle _ => ph == .idle
  | .data1 _ => ph == .awaiting0
  | .data2 _ => ph == .awaiting1
  | .tick => true
  | .reset => true

end Sys2Proof
end

