-- ==== Sys2Proof/Machine/State.lean ====
section
/-! DEFINITION. The state of the block (10_state.md R20) and, beside it, the arguments, the input and the output of the
spec's `Step : CFG x State x Event -> State x WriteList` (00_scope.md R15), which the host's `step : State → Outcome`
has no other place for. -/

namespace Sys2Proof.Machine

/-- A device write `(address, value)` (00_scope.md R16). -/
abbrev Write := Byte × Byte

/-- The device register space as the sink shows it: for each address the value last written, strictly rising in the
address. An address that is not listed has no value: the model assumes nothing of the device (20_memory.md R51,
70_reset_and_hazards.md R196; log 6). -/
abbrev Memory := List Host.Cell

/-- The framer registers (10_state.md R20, R26, R27, R36 to R38). -/
structure Framer where
  /-- `F.st_valid`: a status byte has been seen since reset (R36). -/
  stValid : Bool
  /-- `F.st`: the last status byte, whole (R37). -/
  st : Byte
  /-- `F.cnt`: data bytes already received for the message being collected (R38). -/
  cnt : BitVec 1
  /-- `F.note`: the first data byte (R26). -/
  note : Data
  /-- `F.vel`: the second data byte, 0 between steps (R27). -/
  vel : Data
deriving DecidableEq, Repr

/-- One voice slot `V[i]` (R22, R23). Its device addresses are configuration (R24). -/
structure Slot where
  /-- `V[i].note`: the note the slot holds, 0 when it is free (R22). -/
  note : Data
  /-- `V[i].t0`: the tick at which the slot was last allocated (R23), a value below `2 ^ TICK_W` (log 11). -/
  t0 : Nat
deriving DecidableEq, Repr

/-- The voice pool: exactly three slots in a fixed order (R21). -/
structure Pool where
  v0 : Slot
  v1 : Slot
  v2 : Slot
deriving DecidableEq, Repr

/-- The state. `framer`, `pool` and `ticks` are the registers of 10_state.md R20; the other fields are the model's own:
the argument, the coming input and the output of `Step` (00_scope.md R15, R16). -/
structure State where
  /-- `CFG`, an argument of the step function (00_scope.md R8); no step changes it (10_state.md R40; log 1). -/
  cfg : Cfg
  /-- The framer. -/
  framer : Framer
  /-- The voice pool. -/
  pool : Pool
  /-- `T`, the tick counter (R39), a value below `2 ^ TICK_W` (log 11). -/
  ticks : Nat
  /-- The environment's coming input, oldest first; when it is empty the transport has no byte (R15; log 3). -/
  input : List Input
  /-- `W`, the write list of the current step, and after a step the list that step produced (R16; log 5). -/
  writes : List Write
  /-- The output trace: the write lists of the steps taken, joined (R16; log 5). -/
  trace : List Write
  /-- The device register space, written and never read (20_memory.md R50, R51; log 6). -/
  device : Memory
deriving DecidableEq, Repr

/-- Reasons to stop with a fault. There is NONE: the block raises no exception, trap, fault or error of any kind, in any
state, on any input (60_exceptions.md R170), so the type is empty and no step can fault. Safe (log 12). -/
inductive Fault where
deriving DecidableEq, Repr

/-- Reasons to refuse an instruction. -/
inductive Refusal where
  /-- The instruction has no meaning yet. Raised by no arm of `exec`: every row of the table has its meaning. Safe
  (log 12). -/
  | notModelled (mnemonic : String)
deriving DecidableEq, Repr

/-- The framer after reset: every register 0, phase `Idle` (10_state.md R44, 70_reset_and_hazards.md R190). -/
def Framer.reset : Framer := { stValid := false, st := 0x00#8, cnt := 0#1, note := 0#7, vel := 0#7 }

/-- A free slot as reset, a release or an eviction leaves it (R44, 42_voice_pool.md R132). -/
def Slot.cleared : Slot := { note := Config.free, t0 := 0 }

/-- The pool after reset: all slots free (R44, R190). -/
def Pool.reset : Pool := { v0 := Slot.cleared, v1 := Slot.cleared, v2 := Slot.cleared }

/-- The machine right after reset under a given configuration (R44, R190). Nothing has been output, no input is queued
and nothing is assumed of the device (log 3, 5, 6). -/
def State.resetWith (cfg : Cfg) : State :=
  { cfg := cfg, framer := Framer.reset, pool := Pool.reset, ticks := 0, input := [], writes := [], trace := [],
    device := [] }

/-- The machine right after reset. Its configuration is the opaque `Config.cfg` (log 1). -/
def State.reset : State := State.resetWith Config.cfg

end Sys2Proof.Machine
end

