-- ==== Sys2Proof/Machine/Operands.lean ====
section
/-! DEFINITION. Operand assembly and arithmetic: widening (00_scope.md R12), the halves of a tone period (20_memory.md
R58), the frequency ROM (R53, R54), the slots' device addresses (10_state.md R24) and tick arithmetic (R14). -/

namespace Sys2Proof

/-- `TICK_W`, the width of the tick counter: at least 13 (00_scope.md R8, R9 (a); log 2). -/
def Cfg.tickW (c : Cfg) : Nat := 13 + c.tickExtra

/-- The device addresses of slot `i` (10_state.md R24). -/
def Cfg.slot (c : Cfg) (i : SlotIx) : SlotAddrs :=
  match i with
  | 0 => c.slot0
  | 1 => c.slot1
  | 2 => c.slot2

/-- `FTAB[n]`: the 16-bit entry of note `n`, its top four bits 0 (20_memory.md R54, 00_scope.md R9 (b)). -/
def Cfg.period (c : Cfg) (n : Data) : Period := (c.ftab[n.toNat]'n.isLt).setWidth 16

end Sys2Proof

namespace Sys2Proof.Machine

/-- `WD_INTERVAL`: the watchdog samples at the multiples of this many ticks (00_scope.md R7). -/
def wdInterval : Nat := 1000

/-- `WD_TIMEOUT`: the age at which an occupied slot is evicted (00_scope.md R7). -/
def wdTimeout : Nat := 4000

/-- `SILENCE`: the value a release writes to a level register (00_scope.md R7). -/
def silence : Byte := 0x00#8

/-- `zext_8` of a data value (00_scope.md R12). -/
def zext8 (d : Data) : Byte := d.setWidth 8

/-- Bits 7 to 0 of a tone period, for the slot's low register (20_memory.md R58). -/
def periodLow (p : Period) : Byte := p.extractLsb' 0 8

/-- Bits 15 to 8 of a tone period, for the slot's high register (20_memory.md R58). -/
def periodHigh (p : Period) : Byte := p.extractLsb' 8 8

/-- `(t + 1) mod 2^TICK_W` (00_scope.md R14). -/
def tickSucc (w t : Nat) : Nat := (t + 1) % 2 ^ w

/-- `(a - b) mod 2^TICK_W`: the value below `2^TICK_W` congruent to the integer difference (00_scope.md R14). -/
def tickSub (w a b : Nat) : Nat := (a + (2 ^ w - b % 2 ^ w)) % 2 ^ w

end Sys2Proof.Machine
end

