-- ==== Sys2Proof/Machine/Flags.lean ====
section
/-! DEFINITION. The block has no flag register (10_state.md R35); these are its predicates: the framer phase (R32), the
slots (42_voice_pool.md R131), the scans over them (00_scope.md R17) and the watchdog's two tests (43_watchdog.md R152,
R157). -/

namespace Sys2Proof.Machine

/-- The framer phase (10_state.md R32). The unreachable combination `st_valid = 0`, `cnt = 1` acts as `Idle`, as the
order of the tests of 40_step_and_framer.md R93 has it. -/
def State.phase (s : State) : Phase :=
  if s.framer.stValid = false then .idle
  else if s.framer.cnt = 0#1 then .awaiting0
  else .awaiting1

/-- `V[i]` (10_state.md R21). -/
def Pool.get (p : Pool) (i : SlotIx) : Slot :=
  match i with
  | 0 => p.v0
  | 1 => p.v1
  | 2 => p.v2

/-- Slot `i` holds `n`; for `n = 0` this is "slot `i` is free" (42_voice_pool.md R131). -/
def Pool.holds (p : Pool) (i : SlotIx) (n : Data) : Bool := (p.get i).note == n

/-- `first i in 0..2 with P(i)`: the least such index, or none (00_scope.md R17). -/
def firstSlot (P : SlotIx → Bool) : Option SlotIx :=
  if P 0 then some 0 else if P 1 then some 1 else if P 2 then some 2 else none

/-- The holder of `n`: the first slot whose note is `n` (42_voice_pool.md R134, R141). -/
def Pool.holder (p : Pool) (n : Data) : Option SlotIx := firstSlot fun i => p.holds i n

/-- `Select(n)`: the holder of `n` if there is one, else the first free slot (42_voice_pool.md R134). -/
def Pool.select (p : Pool) (n : Data) : Option SlotIx :=
  match p.holder n with
  | some i => some i
  | none => p.holder Config.free

/-- The age of slot `i`: `(T - V[i].t0) mod 2^TICK_W` (43_watchdog.md R156). -/
def State.age (s : State) (i : SlotIx) : Nat := tickSub s.cfg.tickW s.ticks (s.pool.get i).t0

/-- The gate: `T mod 1000 = 0` (43_watchdog.md R152). -/
def State.passDue (s : State) : Bool := s.ticks % wdInterval == 0

/-- Whether a pass evicts slot `i`: it is occupied and its age is at least 4000 (43_watchdog.md R155, R157). -/
def State.expired (s : State) (i : SlotIx) : Bool :=
  (s.pool.get i).note != Config.free && decide (wdTimeout ≤ s.age i)

end Sys2Proof.Machine
end

