-- ==== Sys2Proof/Machine/Ops.lean ====
section
/-! DEFINITION. The shared operations: the device register space, `emit` and the mixer preamble, the voice pool, the
dispatcher, the framer and the watchdog. There is no exception to take and none to return from (60_exceptions.md R170,
R181, R182), so there is no operation for either. -/

namespace Sys2Proof.Machine

/-! ### The device register space (20_memory.md R50; log 6) -/

/-- The value last written to an address, if any. -/
def Memory.read : Memory → Nat → Option Byte
  | [], _ => none
  | c :: m, a => if a = c.1 then some c.2 else Memory.read m a

/-- Write one byte, keeping the addresses strictly rising. -/
def Memory.write : Memory → Nat → Byte → Memory
  | [], a, b => [(a, b)]
  | c :: m, a, b =>
    if a < c.1 then (a, b) :: c :: m
    else if a = c.1 then (a, b) :: m
    else c :: Memory.write m a b

/-- The canonical form: addresses strictly rising, all inside the 8-bit space (20_memory.md R50). -/
abbrev Memory.wf (m : Memory) : Prop := (m.map Prod.fst).Pairwise (· < ·) ∧ ∀ c ∈ m, c.1 < 256

/-! ### Field updates -/

/-- Replace the framer registers. -/
def State.withFramer (s : State) (f : Framer) : State := { s with framer := f }

/-- Replace the voice pool. -/
def State.withPool (s : State) (p : Pool) : State := { s with pool := p }

/-- Replace the tick counter. -/
def State.withTicks (s : State) (t : Nat) : State := { s with ticks := t }

/-- Replace slot `i` of a pool. -/
def Pool.set (p : Pool) (i : SlotIx) (x : Slot) : Pool :=
  match i with
  | 0 => { p with v0 := x }
  | 1 => { p with v1 := x }
  | 2 => { p with v2 := x }

/-- Replace slot `i` of the state's pool. -/
def State.setSlot (s : State) (i : SlotIx) (x : Slot) : State := s.withPool (s.pool.set i x)

/-! ### Output -/

/-- `emit(a, v)`: append the pair to the write list of the step (00_scope.md R16); the sink takes it at once (20_memory.md
R65, 92_eei_decisions.md D26). -/
def State.emit (s : State) (a v : Byte) : State :=
  { s with writes := s.writes ++ [(a, v)], device := s.device.write a.toNat v }

/-- The mixer preamble, the first write of every dispatch (41_dispatcher.md R112). -/
def State.preamble (s : State) : State := s.emit s.cfg.mixerAddr s.cfg.mixerVal

/-! ### The voice pool (42_voice_pool.md) -/

/-- `ReleaseSlot(i)`: silence the slot's level register and free the slot (R132). -/
def State.releaseSlot (s : State) (i : SlotIx) : State :=
  (s.emit (s.cfg.slot i).level silence).setSlot i Slot.cleared

/-- `Release(n)`: release the first slot that holds `n`, if any (R141, R142). -/
def State.release (s : State) (n : Data) : State :=
  match s.pool.holder n with
  | some i => s.releaseSlot i
  | none => s

/-- The three writes of an allocation, level, period low, period high, and the claim of the slot (R133, R136 to
R139). -/
def State.programSlot (s : State) (i : SlotIx) (n : Data) : State :=
  let p := s.cfg.period n
  let s1 := s.emit (s.cfg.slot i).level s.cfg.levelMax
  let s2 := s1.emit (s.cfg.slot i).flsb (periodLow p)
  let s3 := s2.emit (s.cfg.slot i).fmsb (periodHigh p)
  s3.setSlot i { note := n, t0 := s.ticks }

/-- `Allocate(n, v)` (R133): a release when `v = 0`; otherwise program the selected slot, or drop the note (R140). -/
def State.allocate (s : State) (n v : Data) : State :=
  if v = 0#7 then s.release n
  else
    match s.pool.select n with
    | some i => s.programSlot i n
    | none => s

/-! ### The dispatcher (41_dispatcher.md) -/

/-- `Dispatch(st, n, v)`: the preamble, then the operation the status byte selects, 0x85 tested first (R110, R111). -/
def State.dispatch (s : State) (st : Byte) (n v : Data) : State :=
  let s1 := s.preamble
  if st = stRawWrite then s1.emit (zext8 n) (zext8 v)
  else if command st = cmdNoteOn then s1.allocate n v
  else if command st = cmdNoteOff then s1.release n
  else s1

/-! ### The framer (40_step_and_framer.md) -/

/-- What a status byte does to the framer: latch it and clear what was collected (R95). -/
def State.latchStatus (s : State) (st : Byte) : State :=
  s.withFramer { stValid := true, st := st, cnt := 0#1, note := 0#7, vel := 0#7 }

/-- What the first data byte does: it is stored and counted (R97). -/
def State.takeFirstData (s : State) (d : Data) : State :=
  s.withFramer { s.framer with note := d, cnt := 1#1 }

/-- What the second data byte does: it is stored, the message is dispatched, and the data latches are cleared under the
same status byte (R98). -/
def State.takeSecondData (s : State) (d : Data) : State :=
  let s1 := s.withFramer { s.framer with vel := d }
  let s2 := s1.dispatch s1.framer.st s1.framer.note s1.framer.vel
  s2.withFramer { s2.framer with cnt := 0#1, note := 0#7, vel := 0#7 }

/-- `Frame(b)`: the framer's handling of one byte (R93). -/
def State.frame (s : State) (b : Byte) : State :=
  if isStatus b then s.latchStatus b
  else if s.framer.stValid = false then s
  else if s.framer.cnt = 0#1 then s.takeFirstData (dataVal b)
  else s.takeSecondData (dataVal b)

/-! ### The watchdog (43_watchdog.md) -/

/-- `T <- (T + 1) mod 2^TICK_W` (R151). -/
def State.countTick (s : State) : State := s.withTicks (tickSucc s.cfg.tickW s.ticks)

/-- One slot of a pass: evict it, by index, when it is occupied and old enough (R154 to R159). -/
def State.sweepSlot (s : State) (i : SlotIx) : State := if s.expired i then s.releaseSlot i else s

/-- A watchdog pass: the slots in the order 0, 1, 2, with no preamble (R154, R160). -/
def State.watchdogPass (s : State) : State := ((s.sweepSlot 0).sweepSlot 1).sweepSlot 2

/-- `Tick()`: increment, then the gate on the new value, then the pass (R150 to R152). -/
def State.tickEvent (s : State) : State :=
  let s1 := s.countTick
  if s1.passDue then s1.watchdogPass else s1

/-! ### Reset (70_reset_and_hazards.md) -/

/-- What `RESET` does: every register to its reset value, no write (R190 to R192). The configuration stays (R193), the
device keeps what it holds (R196), and what the environment has yet to present and has already received is not the
block's to change (log 9). -/
def State.resetEvent (s : State) : State :=
  { State.resetWith s.cfg with input := s.input, writes := s.writes, trace := s.trace, device := s.device }

end Sys2Proof.Machine
end

