-- ==== Sys2Proof/Machine/Events.lean ====
section
/-! DEFINITION. The meanings of the two events that carry no byte: TICK (43_watchdog.md R150) and RESET
(70_reset_and_hazards.md R191). -/

namespace Sys2Proof.Machine

/-- TICK: what an `IDLE` step does (43_watchdog.md R150). -/
def execTick (s : State) : Host.Outcome State Fault Refusal :=
  .next s.tickEvent

/-- RESET: the reset state and an empty write list (70_reset_and_hazards.md R191). -/
def execReset (s : State) : Host.Outcome State Fault Refusal :=
  .next s.resetEvent

end Sys2Proof.Machine
end

