-- ==== Sys2Proof/Machine/Framing.lean ====
section
/-! DEFINITION. The meanings of the framer's rows: STATUS, DATA_IDLE, DATA1, DATA2 (40_step_and_framer.md R95 to R98) and
the running-status continuation RS (R100). Each data row has the effect of its own rule; the phase that selects it is
the decoder's business (30_encoding.md R88; log 8). -/

namespace Sys2Proof.Machine

/-- RS: the two `BYTE` events of a running-status continuation, in any phase (30_encoding.md R86, R87 (c);
40_step_and_framer.md R100). -/
def execRs (a b : Data) (s : State) : Host.Outcome State Fault Refusal :=
  .next ((s.frame (dataByte a)).frame (dataByte b))

/-- STATUS: latch the status byte, drop a partial message (40_step_and_framer.md R95). -/
def execStatus (o : BitVec 3) (c : BitVec 4) (s : State) : Host.Outcome State Fault Refusal :=
  .next (s.latchStatus (statusByte o c))

/-- DATA_IDLE: a data byte before any status byte has no effect (40_step_and_framer.md R96). -/
def execDataIdle (_v : Data) (s : State) : Host.Outcome State Fault Refusal :=
  .next s

/-- DATA1: store the first data byte (40_step_and_framer.md R97). -/
def execData1 (v : Data) (s : State) : Host.Outcome State Fault Refusal :=
  .next (s.takeFirstData v)

/-- DATA2: store the second data byte and dispatch the message (40_step_and_framer.md R98). -/
def execData2 (v : Data) (s : State) : Host.Outcome State Fault Refusal :=
  .next (s.takeSecondData v)

end Sys2Proof.Machine
end

