-- ==== Sys2Proof/Machine/Messages.lean ====
section
/-! DEFINITION. The meanings of the full messages (format `M3`, 30_encoding.md R72, R78): the status byte is latched, the
mixer preamble opens the dispatch (41_dispatcher.md R112), and the operation's own rule follows. -/

namespace Sys2Proof.Machine

/-- RAW_WRITE: the preamble, then the raw write; the pool is not told (41_dispatcher.md R116, R117). -/
def execRawWrite (a d : Data) (s : State) : Host.Outcome State Fault Refusal :=
  .next (((s.latchStatus stRawWrite).preamble).emit (zext8 a) (zext8 d))

/-- NOTE_ON: the preamble, then `Allocate(n, v)` (41_dispatcher.md R113, R114). -/
def execNoteOn (c : BitVec 4) (n v : Data) (s : State) : Host.Outcome State Fault Refusal :=
  .next (((s.latchStatus (statusByte 0b001#3 c)).preamble).allocate n v)

/-- NOTE_OFF: the preamble, then `Release(n)`; the velocity is ignored (41_dispatcher.md R115). On channel 5, which has no
encoding (30_encoding.md R87 (b)), the same operation is applied; no decoding yields it (log 8). -/
def execNoteOff (c : BitVec 4) (n _v : Data) (s : State) : Host.Outcome State Fault Refusal :=
  .next (((s.latchStatus (statusByte 0b000#3 c)).preamble).release n)

/-- IGNORED, command 0xA0: the preamble only (41_dispatcher.md R119). -/
def execIgnoredA0 (c : BitVec 4) (_x _y : Data) (s : State) : Host.Outcome State Fault Refusal :=
  .next ((s.latchStatus (statusByte 0b010#3 c)).preamble)

/-- IGNORED, command 0xB0: the preamble only (41_dispatcher.md R119). -/
def execIgnoredB0 (c : BitVec 4) (_x _y : Data) (s : State) : Host.Outcome State Fault Refusal :=
  .next ((s.latchStatus (statusByte 0b011#3 c)).preamble)

/-- IGNORED, command 0xC0: the preamble only (41_dispatcher.md R119). -/
def execIgnoredC0 (c : BitVec 4) (_x _y : Data) (s : State) : Host.Outcome State Fault Refusal :=
  .next ((s.latchStatus (statusByte 0b100#3 c)).preamble)

/-- IGNORED, command 0xD0: the preamble only (41_dispatcher.md R119). -/
def execIgnoredD0 (c : BitVec 4) (_x _y : Data) (s : State) : Host.Outcome State Fault Refusal :=
  .next ((s.latchStatus (statusByte 0b101#3 c)).preamble)

/-- IGNORED, command 0xE0: the preamble only (41_dispatcher.md R119). -/
def execIgnoredE0 (c : BitVec 4) (_x _y : Data) (s : State) : Host.Outcome State Fault Refusal :=
  .next ((s.latchStatus (statusByte 0b110#3 c)).preamble)

/-- IGNORED, command 0xF0: the preamble only (41_dispatcher.md R119). -/
def execIgnoredF0 (c : BitVec 4) (_x _y : Data) (s : State) : Host.Outcome State Fault Refusal :=
  .next ((s.latchStatus (statusByte 0b111#3 c)).preamble)

end Sys2Proof.Machine
end

