-- ==== Sys2Proof/Machine/Dispatch.lean ====
section
/-! DEFINITION. One arm per row of spec/opcode_table.json. -/

namespace Sys2Proof.Machine

def exec (i : Instr) (s : State) : Host.Outcome State Fault Refusal :=
  match i with
  | .rawWrite a d => Sys2Proof.Machine.execRawWrite a d s
  | .noteOn c n v => Sys2Proof.Machine.execNoteOn c n v s
  | .noteOff c n v => Sys2Proof.Machine.execNoteOff c n v s
  | .ignoredA0 c x y => Sys2Proof.Machine.execIgnoredA0 c x y s
  | .ignoredB0 c x y => Sys2Proof.Machine.execIgnoredB0 c x y s
  | .ignoredC0 c x y => Sys2Proof.Machine.execIgnoredC0 c x y s
  | .ignoredD0 c x y => Sys2Proof.Machine.execIgnoredD0 c x y s
  | .ignoredE0 c x y => Sys2Proof.Machine.execIgnoredE0 c x y s
  | .ignoredF0 c x y => Sys2Proof.Machine.execIgnoredF0 c x y s
  | .rs a b => Sys2Proof.Machine.execRs a b s
  | .status o c => Sys2Proof.Machine.execStatus o c s
  | .dataIdle v => Sys2Proof.Machine.execDataIdle v s
  | .data1 v => Sys2Proof.Machine.execData1 v s
  | .data2 v => Sys2Proof.Machine.execData2 v s
  | .tick => Sys2Proof.Machine.execTick s
  | .reset => Sys2Proof.Machine.execReset s

end Sys2Proof.Machine
end

