-- ==== Sys2Proof/Machine/Fetch.lean ====
section
/-! DEFINITION. What a step does around its instruction: it takes the environment's next event, starts an empty write
list, and at its end joins that list to the output trace (00_scope.md R15, R16; 40_step_and_framer.md R90, R91). -/

namespace Sys2Proof.Machine

/-- The next event. With nothing queued the transport reports no byte, which is the event `IDLE` (00_scope.md R15; DESIGN
CHOICE on the environment, log 3). -/
def State.nextInput (s : State) : Input :=
  match s.input with
  | [] => .idle
  | u :: _ => u

/-- The row the next event selects in the present phase (30_encoding.md R88). -/
def State.fetch (s : State) : Instr := decodeEvent s.phase s.nextInput

/-- The beginning of a step: its one event is consumed, and with it at most one byte, and `W` is empty (00_scope.md R16,
40_step_and_framer.md R90, R91). -/
def State.beginStep (s : State) : State := { s with input := s.input.tail, writes := [] }

/-- The end of a step: its write list joins the output trace (00_scope.md R16). -/
def State.endStep (s : State) : State := { s with trace := s.trace ++ s.writes }

/-! ### Placing a word of the opcode table (log 4) -/

/-- The environment presents some events before all others. -/
def State.present (s : State) (us : List Input) : State := { s with input := us ++ s.input }

/-- Whether a byte would complete the message being collected (40_step_and_framer.md R98). -/
def State.completes (s : State) (b : Byte) : Bool := s.phase == .awaiting1 && !isStatus b

/-- Put a run of events where the next step completes it: every byte but the last has been received, as the framer
receives it, and the last is the next event. A byte that would complete a message before the end of the run is left to a
step of its own, and what follows it waits. -/
def State.placeEvents (s : State) : List Input → State
  | [] => s
  | [u] => s.present [u]
  | u :: us =>
    match u with
    | .byte b => if s.completes b then s.present (.byte b :: us) else (s.frame b).placeEvents us
    | .idle => s.present (.idle :: us)
    | .reset => s.present (.reset :: us)

/-- Put a word of the opcode table where the next step completes it. A word that is no row is presented as its bytes, which
is what the block would receive (30_encoding.md R79; log 7). -/
def State.placeWord (s : State) (nbits w : Nat) : State :=
  match decodeWord s.phase nbits w with
  | .ok _ => s.placeEvents (eventsOfWord (nbits / 8) w)
  | .error _ => s.present ((bytesOfWord (nbits / 8) w).map Input.byte)

end Sys2Proof.Machine
end

