-- ==== Sys2Proof/Machine/Step.lean ====
section
/-! DEFINITION. One step of the block (40_step_and_framer.md R90): take the next event, run the instruction it
selects, and hand its writes to the output trace. -/

namespace Sys2Proof.Machine

/-- One step (R90). -/
def step (s : State) : Host.Outcome State Fault Refusal :=
  match exec s.fetch s.beginStep with
  | .next t => .next t.endStep
  | .fault r => .fault r
  | .refused r => .refused r

/-- `s` with a word of the opcode table placed so that the very next step completes it (log 3, log 4, log 7). -/
def State.withFetchWord (s : State) (nbits w : Nat) : State := s.placeWord nbits w

end Sys2Proof.Machine
end

