-- ==== Sys2Proof/Safety.lean ====
section
/-! DEFINITION. The terms the statements use: the write lists of the spec's symbols MIX, ON and OFF (95_test_vectors.md,
Conventions), what it is to emit a write list and change nothing else outside the registers, the effects of an
allocation and of a release told without the model's scans, and the invariants. -/

namespace Sys2Proof.Safety

open Sys2Proof.Machine

/-! ### Runs -/

/-- `k` steps. -/
def run (k : Nat) (s : State) : Host.Outcome State Fault Refusal := Host.Core.run Sys2Proof.core k s

/-- The events of the next `k` steps: those queued, then `IDLE` for as long as nothing is queued (log 3). -/
def coming (s : State) (k : Nat) : List Input := s.input.take k ++ List.replicate (k - s.input.length) .idle

/-! ### Write lists -/

/-- `MIX`: the mixer preamble (41_dispatcher.md R112). -/
def mix (c : Cfg) : Write := (c.mixerAddr, c.mixerVal)

/-- `OFF(i)`: silence on slot `i` (42_voice_pool.md R132). -/
def off (c : Cfg) (i : SlotIx) : Write := ((c.slot i).level, 0x00#8)

/-- `ON(i, n)`: the level, then the low and the high byte of the period of `n` (42_voice_pool.md R133), the two bytes
told by division. -/
def on (c : Cfg) (i : SlotIx) (n : Data) : List Write :=
  [((c.slot i).level, c.levelMax), ((c.slot i).flsb, BitVec.ofNat 8 ((c.period n).toNat % 256)),
    ((c.slot i).fmsb, BitVec.ofNat 8 ((c.period n).toNat / 256))]

/-- The value the last write to address `a` in a write list carries, if there is one. -/
def lastWriteTo (ws : List Write) (a : Nat) : Option Byte :=
  (ws.reverse.find? fun p => p.1.toNat == a).map Prod.snd

/-- From `s` to `t` the writes `ws` are emitted, in order, and nothing else happens outside the block's registers: every
device address reads as the last write to it among `ws`, and as before where there is none. The configuration, the
coming input and the output of earlier steps are unchanged. -/
def Emits (s t : State) (ws : List Write) : Prop :=
  t.cfg = s.cfg ∧ t.input = s.input ∧ t.trace = s.trace ∧ t.writes = s.writes ++ ws ∧
    ∀ a, t.device.read a = (lastWriteTo ws a).or (s.device.read a)

/-- The device after a write list is replayed on it. -/
def replay (m : Memory) (ws : List Write) : Memory := ws.foldl (fun m p => m.write p.1.toNat p.2) m

/-! ### The pool, told without scans -/

/-- Slot `i` is the first slot whose note is `n` (00_scope.md R17, 42_voice_pool.md R141). -/
abbrev FirstHolding (p : Pool) (n : Data) (i : SlotIx) : Prop :=
  (p.get i).note = n ∧ ∀ j, j < i → (p.get j).note ≠ n

/-- Slot `i` is the one `Select(n)` gives: the holder of `n`, or, when no slot holds `n`, the first free slot
(42_voice_pool.md R134). -/
abbrev Selected (p : Pool) (n : Data) (i : SlotIx) : Prop :=
  FirstHolding p n i ∨ ((∀ j, (p.get j).note ≠ n) ∧ FirstHolding p 0#7 i)

/-- From `s` to `t` slot `i` takes the value `x` and every other slot keeps its own. -/
def SlotBecomes (s t : State) (i : SlotIx) (x : Slot) : Prop :=
  ∀ j, t.pool.get j = if j = i then x else s.pool.get j

/-- The effect of a dispatched release of `n` on the output and the pool (41_dispatcher.md R115). -/
def ReleaseEffect (s t : State) (n : Data) : Prop :=
  (∀ i, FirstHolding s.pool n i →
    Emits s t [mix s.cfg, off s.cfg i] ∧ SlotBecomes s t i { note := 0#7, t0 := 0 }) ∧
  ((∀ i, (s.pool.get i).note ≠ n) → Emits s t [mix s.cfg] ∧ t.pool = s.pool)

/-- The effect of a dispatched note-on of `n` with velocity `v` on the output and the pool (41_dispatcher.md R113). -/
def AllocateEffect (s t : State) (n v : Data) : Prop :=
  (v = 0#7 → ReleaseEffect s t n) ∧
  (v ≠ 0#7 →
    (∀ i, Selected s.pool n i →
      Emits s t (mix s.cfg :: on s.cfg i n) ∧ SlotBecomes s t i { note := n, t0 := s.ticks }) ∧
    ((∀ i, ¬ Selected s.pool n i) → Emits s t [mix s.cfg] ∧ t.pool = s.pool))

/-- The framer with the status byte `st` latched and no data collected (40_step_and_framer.md R95). -/
def latched (st : Byte) : Framer := { stValid := true, st := st, cnt := 0#1, note := 0#7, vel := 0#7 }

/-! ### The watchdog -/

/-- The age of a slot stamped `t0` when the tick counter is `t`: the integer difference reduced modulo `2 ^ w`
(00_scope.md R14, 43_watchdog.md R156). -/
def ageAt (w t t0 : Nat) : Nat := (((t : Int) - (t0 : Int)) % (2 ^ w : Int)).toNat

/-- Whether a pass at tick `t` evicts slot `i` of `s`: occupied, and at least 4000 old (43_watchdog.md R155, R157). -/
def evicts (s : State) (t : Nat) (i : SlotIx) : Bool :=
  (s.pool.get i).note != 0#7 && decide (4000 ≤ ageAt s.cfg.tickW t (s.pool.get i).t0)

/-- What a watchdog pass does to the pool and which writes it makes, from `s` to `t`, at the tick value of `t`
(43_watchdog.md R154 to R160): every slot it evicts is cleared, every other slot keeps its value, and the silence writes
come in slot order with no preamble. -/
abbrev PassEffect (s t : State) (ws : List Write) : Prop :=
  ws = (([0, 1, 2] : List SlotIx).filter (evicts s t.ticks)).map (off s.cfg) ∧
  ∀ i, t.pool.get i = if evicts s t.ticks i = true then { note := 0#7, t0 := 0 } else s.pool.get i

/-! ### Invariants -/

/-- The framer invariants (10_state.md R41). -/
abbrev FramerInv (f : Framer) : Prop :=
  (f.stValid = false → f.cnt = 0#1 ∧ f.st = 0x00#8 ∧ f.note = 0#7) ∧
  (f.stValid = true → f.st.getLsbD 7 = true) ∧
  (f.cnt = 0#1 → f.note = 0#7) ∧
  f.vel = 0#7

/-- The unique-holder invariant (10_state.md R30): no two slots hold one non-zero note. -/
abbrev UniqueHolder (p : Pool) : Prop :=
  ∀ i j, (p.get i).note = (p.get j).note → (p.get i).note ≠ 0#7 → i = j

/-- Every tick value is below `2 ^ TICK_W` (00_scope.md R12, R14). -/
abbrev TicksInRange (s : State) : Prop :=
  s.ticks < 2 ^ s.cfg.tickW ∧ ∀ i, (s.pool.get i).t0 < 2 ^ s.cfg.tickW

/-- The device register space is in canonical form and is what the output trace wrote, and the write list of the last
step ends the output trace (00_scope.md R16, 20_memory.md R65; log 5, log 6). -/
abbrev OutputInv (s : State) : Prop :=
  Memory.wf s.device ∧ s.device = replay [] s.trace ∧ s.writes <:+ s.trace

/-! ### States that differ only in what cannot be observed -/

/-- `F.st` may differ while `F.st_valid = 0` (10_state.md R45). -/
def SameFramer (f g : Framer) : Prop :=
  f.stValid = g.stValid ∧ f.cnt = g.cnt ∧ f.note = g.note ∧ f.vel = g.vel ∧ (f.stValid = true → f.st = g.st)

/-- `t0` may differ while the slot is free (10_state.md R45). -/
def SameSlot (x y : Slot) : Prop := x.note = y.note ∧ (x.note ≠ 0#7 → x.t0 = y.t0)

/-- The two states agree on everything that can reach the output: they may differ in the device, in the output of
earlier steps, in `F.st` while it is invalid and in `t0` of free slots (10_state.md R45, 20_memory.md R51). -/
def SameToAnObserver (s t : State) : Prop :=
  s.cfg = t.cfg ∧ s.input = t.input ∧ s.ticks = t.ticks ∧ SameFramer s.framer t.framer ∧
    ∀ i, SameSlot (s.pool.get i) (t.pool.get i)

/-! ### The table of writes -/

/-- A write that some operation of the spec makes, with the status byte `st` latched (20_memory.md R52). -/
def InWriteTable (c : Cfg) (st : Byte) (p : Write) : Prop :=
  p = mix c ∨
  (∃ i n, p ∈ on c i n) ∨
  (∃ i, p = off c i) ∨
  (st = 0x85#8 ∧ p.1.toNat ≤ 0x7F ∧ p.2.toNat ≤ 0x7F)

/-- The shape of the write list `ws` that an instruction makes in the state `s` (40_step_and_framer.md R103, 41_dispatcher.md
R120, 43_watchdog.md R160). -/
def WriteShape (i : Instr) (s : State) (ws : List Write) : Prop :=
  match i with
  | .status _ _ => ws = []
  | .dataIdle _ => ws = []
  | .data1 _ => ws = []
  | .reset => ws = []
  | .tick => ws.length ≤ 3 ∧ ∀ p ∈ ws, ∃ i, p = off s.cfg i
  | .rs _ _ => ws.length ≤ 4 ∧ (s.phase = .idle → ws = []) ∧ (s.phase ≠ .idle → ws.head? = some (mix s.cfg))
  | _ => ws.length ≤ 4 ∧ ws.head? = some (mix s.cfg)

end Sys2Proof.Safety
end

