-- ==== Sys2Proof/Certificates/Slice0/Obligations.lean ====
section
/-! DEFINITION. The statements for the provers. They say what the rules of spec/ say of the block's operations, of a
step and of the whole machine. Every statement about a state is about EVERY state, its configuration included, unless a
hypothesis says otherwise. -/

open Sys2Proof Sys2Proof.Machine Sys2Proof.Safety

/-! ### The step -/

/-- A step takes the next event and runs the instruction the decoder reads from it in the present phase, on the state with
the event consumed and an empty write list; at its end the write list joins the output trace. With no input queued the
event is `IDLE` (the model's choice, log 3). A word placed with `withFetchWord` that is an instruction is completed by the
very next step, with exactly the effect of that instruction; only a running-status word placed while a message is pending
is left out, because its first byte completes that message in a step of its own (the placing of words is the model's,
log 4, log 7). (00_scope.md R15, R16, 40_step_and_framer.md R90.) -/
def Obligations.StepRunsTheDecodedInstruction : Prop :=
  (∀ (s t : State) (u : Input) (rest : List Input), s.input = u :: rest →
    exec (decodeEvent s.phase u) { s with input := rest, writes := [] } = .next t →
    step s = .next { t with trace := t.trace ++ t.writes }) ∧
  (∀ s t : State, s.input = [] → exec .tick { s with writes := [] } = .next t →
    step s = .next { t with trace := t.trace ++ t.writes }) ∧
  (∀ (s t : State) (nbits w : Nat) (i : Instr), decodeWord s.phase nbits w = .ok i →
    (s.phase = .awaiting1 → ∀ a b, i ≠ .rs a b) → exec i { s with writes := [] } = .next t →
    step (s.withFetchWord nbits w) = .next { t with trace := t.trace ++ t.writes })

/-- A step takes exactly one event and consumes at most one byte: the next event leaves the coming input, every other one
stays, and `T` moves exactly in the steps that find no byte (40_step_and_framer.md R91, a decision of the spec; that no
event queued means `IDLE` is the model's choice, log 3). -/
def Obligations.StepConsumesAtMostOneByte : Prop :=
  ∀ s : State, ∃ t, step s = .next t ∧ t.input = s.input.drop 1 ∧
    s.input.flatMap eventBytes = eventBytes s.nextInput ++ t.input.flatMap eventBytes ∧
    (eventBytes s.nextInput).length ≤ 1 ∧
    ((∃ b, s.nextInput = .byte b) → t.ticks = s.ticks) ∧
    (s.nextInput = .idle → t.ticks = (s.ticks + 1) % 2 ^ s.cfg.tickW)

/-- No step faults or refuses, and no instruction does: "The block raises no exception, trap, fault or error of any kind,
in any state, on any input." (60_exceptions.md section 1; the rule's words on registers that do not exist are no
statement about a step.) -/
def Obligations.EveryStepAnswersNext : Prop :=
  (∀ (i : Instr) (s : State), ∃ t, exec i s = .next t) ∧ ∀ s : State, ∃ t, step s = .next t

/-- The output of a step is its write list, and the output trace is the concatenation of the write lists of the steps.
(00_scope.md R16.) -/
def Obligations.OutputTraceIsConcatenationOfWriteLists : Prop :=
  ∀ s t : State, step s = .next t → t.trace = s.trace ++ t.writes

/-- What an instruction does outside the block's registers is to append writes: for every instruction there is the list
of pairs it emits, every device address reads as the last pair emitted to it and as before where there is none, and the
configuration, the coming input and the output of earlier steps are untouched. (00_scope.md R16, 20_memory.md section 5
and section 7.) -/
def Obligations.EveryInstructionOnlyAppendsWrites : Prop :=
  ∀ (i : Instr) (s t : State), exec i s = .next t → ∃ ws, Emits s t ws

/-! ### Encoding -/

/-- Words written out bit by bit from the encodings of 30_encoding.md R71 to R73 and R78 decode to their rows, and bytes
that are no message are refused by name. Two clauses are the model's choice (log 7) and no encoding of the spec: the
empty word as TICK, which has no encoding (43_watchdog.md R150), and an 8-bit data word without a phase as DATA_IDLE,
since the three data rows are told apart by the phase alone (R88). -/
def Obligations.SampleWordsDecodeToTheirRows : Prop :=
  decodeTableWord 24 0b100001010000011100111000 = some (.rawWrite 0x07#7 0x38#7) ∧
  decodeTableWord 24 0b100100000011110001100100 = some (.noteOn 0#4 60#7 100#7) ∧
  decodeTableWord 24 0b100001000011110000000000 = some (.noteOff 4#4 60#7 0#7) ∧
  decodeTableWord 24 0b101100000000011101100100 = some (.ignoredB0 0#4 7#7 100#7) ∧
  decodeTableWord 16 0b0011110101100100 = some (.rs 61#7 100#7) ∧
  decodeTableWord 8 0b10011111 = some (.status 1#3 15#4) ∧
  decodeTableWord 8 0b00101101 = some (.dataIdle 45#7) ∧
  decodeWord .awaiting0 8 0b00101101 = .ok (.data1 45#7) ∧
  decodeWord .awaiting1 8 0b00101101 = .ok (.data2 45#7) ∧
  decodeTableWord 0 0 = some .tick ∧
  decodeWord .idle 24 0b100100001011110001100100 = .error .notStatusDataData ∧
  decodeWord .idle 16 0b0011110111100100 = .error .notDataData

/-- Decoding the encoding of a well-formed instruction gives the instruction back: as the events it stands for, in every
phase that selects the row, and, RESET apart, which has no word of its own, as a word of the opcode table. That TICK is
the empty word is the model's choice (log 7): the spec gives TICK no encoding (43_watchdog.md R150). (30_encoding.md
sections 1, 3 and 6.) -/
def Obligations.DecodeOfEncodeIsIdentity : Prop :=
  ∀ (i : Instr) (ph : Phase), i.wellFormed = true → phaseSelects ph i = true →
    decode ph (encode i) = .ok i ∧ (i ≠ .reset → decodeWord ph (encodeBits i) (encodeWord i) = .ok i)

/-- A 24-bit word is a message exactly when bits 23, 15, 7 are 1, 0, 0, and its row is the one the match and mask values
select in the order of their priority. (30_encoding.md section 3; the order is decision D14 of the spec.) -/
def Obligations.MessageWordsFollowTheOpcodeMap : Prop :=
  ∀ w : BitVec 24,
    let d1 : Data := w.extractLsb' 8 7
    let d2 : Data := w.extractLsb' 0 7
    let c : BitVec 4 := w.extractLsb' 16 4
    decodeTableWord 24 w.toNat =
      if w &&& 0x808080#24 ≠ 0x800000#24 then none
      else if w &&& 0xFF8080#24 = 0x850000#24 then some (.rawWrite d1 d2)
      else if w &&& 0xF08080#24 = 0x900000#24 then some (.noteOn c d1 d2)
      else if w &&& 0xF08080#24 = 0x800000#24 then some (.noteOff c d1 d2)
      else if w &&& 0xF08080#24 = 0xA00000#24 then some (.ignoredA0 c d1 d2)
      else if w &&& 0xF08080#24 = 0xB00000#24 then some (.ignoredB0 c d1 d2)
      else if w &&& 0xF08080#24 = 0xC00000#24 then some (.ignoredC0 c d1 d2)
      else if w &&& 0xF08080#24 = 0xD00000#24 then some (.ignoredD0 c d1 d2)
      else if w &&& 0xF08080#24 = 0xE00000#24 then some (.ignoredE0 c d1 d2)
      else some (.ignoredF0 c d1 d2)

/-! ### The messages -/

/-- RAW_WRITE (41_dispatcher.md R116): exactly two writes, the preamble and the raw write, address and value at most 0x7F,
every device address but the two written reading as before; no register but the framer's changes, which keeps the latched status; and running status applies, two
further data bytes being another RAW_WRITE. -/
def Obligations.RawWriteEmitsPreambleThenTheByte : Prop :=
  (∀ (a d : Data) (s : State), ∃ t, exec (.rawWrite a d) s = .next t ∧
    Emits s t [mix s.cfg, (a.setWidth 8, d.setWidth 8)] ∧
    (a.setWidth 8).toNat ≤ 0x7F ∧ (d.setWidth 8).toNat ≤ 0x7F ∧
    t.pool = s.pool ∧ t.ticks = s.ticks ∧ t.framer = latched 0x85#8) ∧
  (∀ (a d a2 d2 : Data) (s t : State), exec (.rawWrite a d) s = .next t →
    exec (.rs a2 d2) t = exec (.rawWrite a2 d2) t)

/-- RAW_WRITE reads no register of the pool, does not read `T` and does not read `FTAB`: replacing them before the
instruction and after it is the same; and it writes no register of the pool (41_dispatcher.md R117). -/
def Obligations.RawWriteIgnoresPoolTicksAndTable : Prop :=
  ∀ (a d : Data) (s t : State) (p : Pool) (k : Nat) (tab : Vector (BitVec 12) 128),
    exec (.rawWrite a d) s = .next t →
    t.pool = s.pool ∧
      exec (.rawWrite a d) { s with pool := p, ticks := k, cfg := { s.cfg with ftab := tab } } =
        .next { t with pool := p, ticks := k, cfg := { t.cfg with ftab := tab } }

/-- NOTE_ON (41_dispatcher.md R113): by case of the velocity and of `Select(n)`, the writes in order, what the pool
becomes, and what stays; the channel only enters the latched status. -/
def Obligations.NoteOnAllocatesByCase : Prop :=
  ∀ (c : BitVec 4) (n v : Data) (s : State), ∃ t, exec (.noteOn c n v) s = .next t ∧
    AllocateEffect s t n v ∧ t.ticks = s.ticks ∧ t.framer = latched (0x90#8 ||| c.setWidth 8)

/-- NOTE_ON with velocity 0 produces the same writes and the same state change as NOTE_OFF of the note with any velocity
on any channel but 5 (41_dispatcher.md R114); the latched statuses are those of the two messages. -/
def Obligations.NoteOnVelocityZeroActsAsNoteOff : Prop :=
  ∀ (c c' : BitVec 4) (n v : Data) (s : State), c' ≠ 5#4 → ∃ t u,
    exec (.noteOn c n 0#7) s = .next t ∧ exec (.noteOff c' n v) s = .next u ∧
    t = { u with framer := t.framer } ∧ ReleaseEffect s t n

/-- NOTE_ON with the three slots holding three non-zero notes all different from `n`: the preamble and nothing else, no
state change but the latched status (42_voice_pool.md R140). The dropped note is not queued: the state is the one an
ignored message leaves, but for `F.st`. -/
def Obligations.NoteOnWithFullPoolIsDropped : Prop :=
  ∀ (c c' : BitVec 4) (n v x y : Data) (s : State), v ≠ 0#7 →
    (∀ i, (s.pool.get i).note ≠ 0#7 ∧ (s.pool.get i).note ≠ n) → ∃ t u,
    exec (.noteOn c n v) s = .next t ∧ Emits s t [mix s.cfg] ∧ t.pool = s.pool ∧ t.ticks = s.ticks ∧
    exec (.ignoredA0 c' x y) s = .next u ∧ t = { u with framer := { u.framer with st := t.framer.st } }

/-- Note number 0 through the same comparisons (42_voice_pool.md section 4, decision D16 of the spec): a note-on with
`v > 0` programs the first free slot, which stays free and is stamped with `T`; a note-off silences the first free
slot; with no free slot neither does anything beyond the preamble. For channel 5 the note-off clauses are the model's
choice (log 8): NOTE_OFF on channel 5 does not exist (30_encoding.md R82, R87 (b)). -/
def Obligations.NoteZeroActsOnTheFirstFreeSlot : Prop :=
  ∀ (c : BitVec 4) (v w : Data) (s : State), v ≠ 0#7 → ∃ t u,
    exec (.noteOn c 0#7 v) s = .next t ∧ exec (.noteOff c 0#7 w) s = .next u ∧
    (∀ i, FirstHolding s.pool 0#7 i →
      Emits s t (mix s.cfg :: on s.cfg i 0#7) ∧ SlotBecomes s t i { note := 0#7, t0 := s.ticks } ∧
      Emits s u [mix s.cfg, off s.cfg i] ∧ SlotBecomes s u i { note := 0#7, t0 := 0 }) ∧
    ((∀ i, (s.pool.get i).note ≠ 0#7) →
      Emits s t [mix s.cfg] ∧ t.pool = s.pool ∧ Emits s u [mix s.cfg] ∧ u.pool = s.pool)

/-- NOTE_OFF (41_dispatcher.md R115): the first slot that holds the note is silenced and freed, or nothing but the
preamble happens; the velocity has no effect; no period register is written. Channel 5 has
no NOTE_OFF: its status byte is RAW_WRITE's. -/
def Obligations.NoteOffReleasesTheFirstHolder : Prop :=
  ∀ (c : BitVec 4) (n v : Data) (s : State), c ≠ 5#4 → ∃ t, exec (.noteOff c n v) s = .next t ∧
    ReleaseEffect s t n ∧ t.ticks = s.ticks ∧ t.framer = latched (0x80#8 ||| c.setWidth 8) ∧
    ∀ v', exec (.noteOff c n v') s = .next t

/-- `Release(n)` acts on the first slot that holds `n`, writing its level register and clearing it (42_voice_pool.md
R141), and with no holder it does nothing at all (R142). -/
def Obligations.ReleaseActsOnTheFirstHolderOnly : Prop :=
  ∀ (n : Data) (s : State),
    (∀ i, FirstHolding s.pool n i →
      Emits s (s.release n) [off s.cfg i] ∧ SlotBecomes s (s.release n) i { note := 0#7, t0 := 0 } ∧
      (s.release n).framer = s.framer ∧ (s.release n).ticks = s.ticks) ∧
    ((∀ i, (s.pool.get i).note ≠ n) → s.release n = s)

/-- The six IGNORED commands (41_dispatcher.md section on IGNORED, decision D22 of the spec): the preamble and nothing
else; the status byte is latched like any other. -/
def Obligations.IgnoredMessagesEmitOnlyThePreamble : Prop :=
  ∀ (c : BitVec 4) (x y : Data) (s : State),
    let out (st : Byte) : Host.Outcome State Fault Refusal :=
      .next { s with framer := latched (st ||| c.setWidth 8), writes := s.writes ++ [mix s.cfg],
                     device := s.device.write s.cfg.mixerAddr.toNat s.cfg.mixerVal }
    exec (.ignoredA0 c x y) s = out 0xA0#8 ∧ exec (.ignoredB0 c x y) s = out 0xB0#8 ∧
    exec (.ignoredC0 c x y) s = out 0xC0#8 ∧ exec (.ignoredD0 c x y) s = out 0xD0#8 ∧
    exec (.ignoredE0 c x y) s = out 0xE0#8 ∧ exec (.ignoredF0 c x y) s = out 0xF0#8

/-- The channel nibble of a message enters the latched status and nothing else: NOTE_ON, NOTE_OFF (which channel 5 does not
have) and each IGNORED message on two channels leave the same state but for `F.st`; and a note started on one channel is
released on any other, by a note-on with velocity 0 or by a note-off. (41_dispatcher.md R122, which the spec derives;
30_encoding.md section 2.) -/
def Obligations.ChannelNibbleOnlyEntersTheStatus : Prop :=
  (∀ (c c' : BitVec 4) (x y : Data) (s : State),
    let same (i j : Instr) : Prop := ∃ t u, exec i s = .next t ∧ exec j s = .next u ∧
      t = { u with framer := { u.framer with st := t.framer.st } }
    same (.noteOn c x y) (.noteOn c' x y) ∧
    (c ≠ 5#4 → c' ≠ 5#4 → same (.noteOff c x y) (.noteOff c' x y)) ∧
    same (.ignoredA0 c x y) (.ignoredA0 c' x y) ∧ same (.ignoredB0 c x y) (.ignoredB0 c' x y) ∧
    same (.ignoredC0 c x y) (.ignoredC0 c' x y) ∧ same (.ignoredD0 c x y) (.ignoredD0 c' x y) ∧
    same (.ignoredE0 c x y) (.ignoredE0 c' x y) ∧ same (.ignoredF0 c x y) (.ignoredF0 c' x y)) ∧
  (∀ (c c' : BitVec 4) (n v w : Data) (s t : State), n ≠ 0#7 → UniqueHolder s.pool →
    exec (.noteOn c n v) s = .next t →
    (∃ u, exec (.noteOn c' n 0#7) t = .next u ∧ ReleaseEffect t u n ∧ ∀ i, (u.pool.get i).note ≠ n) ∧
    (c' ≠ 5#4 →
      ∃ u, exec (.noteOff c' n w) t = .next u ∧ ReleaseEffect t u n ∧ ∀ i, (u.pool.get i).note ≠ n))

/-! ### The framer -/

/-- STATUS (40_step_and_framer.md R95): a byte with bit 7 set, in any phase, is latched; a partial message is lost; no
write, and the tick counter and the pool are unchanged. -/
def Obligations.StatusByteIsLatchedInAnyPhase : Prop :=
  (∀ (o : BitVec 3) (c : BitVec 4) (s : State),
    exec (.status o c) s = .next { s with framer := latched (1#1 ++ o ++ c) }) ∧
  (∀ (s : State) (b : Byte) (rest : List Input), s.input = .byte b :: rest → 0x80 ≤ b.toNat →
    step s = .next { s with framer := latched b, input := rest, writes := [] })

/-- DATA_IDLE (40_step_and_framer.md R96): a data byte in phase `Idle` leaves the state unchanged and produces no write;
and the phase `Idle` is never re-entered but by a reset, so the arm can be taken only before the first status byte. The
first clause tells the row's effect in every phase; outside phase `Idle` that is the model's choice (log 8), and no step
runs the row there. -/
def Obligations.DataByteInIdleIsDropped : Prop :=
  (∀ (v : Data) (s : State), exec (.dataIdle v) s = .next s) ∧
  (∀ (s : State) (b : Byte) (rest : List Input), s.input = .byte b :: rest → b.toNat < 0x80 →
    s.framer.stValid = false → step s = .next { s with input := rest, writes := [] }) ∧
  (∀ s t : State, s.framer.stValid = true → s.nextInput ≠ .reset → step s = .next t → t.framer.stValid = true)

/-- DATA1 (40_step_and_framer.md R97): a data byte in phase `AwaitingData(0)` is stored in `F.note` whatever the latched
status, and counted; no write, and every other register is unchanged. The first clause tells the row's effect in every
phase; outside `AwaitingData(0)` that is the model's choice (log 8), and no step runs the row there. -/
def Obligations.FirstDataByteIsStored : Prop :=
  (∀ (v : Data) (s : State),
    exec (.data1 v) s = .next { s with framer := { s.framer with note := v, cnt := 1#1 } }) ∧
  (∀ (s : State) (b : Byte) (rest : List Input), s.input = .byte b :: rest → b.toNat < 0x80 →
    s.framer.stValid = true → s.framer.cnt = 0#1 →
    step s = .next { s with framer := { s.framer with note := BitVec.ofNat 7 b.toNat, cnt := 1#1 },
                            input := rest, writes := [] })

/-- DATA2 (40_step_and_framer.md R98; decisions D14, D19, D21 of the spec): the message `(F.st, F.note, v)` is
dispatched in the same step, by the tests of R110 in their order, and the framer is left with the same status, no data
collected. The row's effect is told in every phase; outside `AwaitingData(1)` that is the model's choice (log 8), and no
step runs the row there. -/
def Obligations.SecondDataByteDispatchesTheMessage : Prop :=
  ∀ (v : Data) (s : State), ∃ t, exec (.data2 v) s = .next t ∧ t.ticks = s.ticks ∧
    t.framer = { s.framer with cnt := 0#1, note := 0#7, vel := 0#7 } ∧
    (s.framer.st = 0x85#8 →
      Emits s t [mix s.cfg, (s.framer.note.setWidth 8, v.setWidth 8)] ∧ t.pool = s.pool) ∧
    (s.framer.st.toNat / 16 = 9 → AllocateEffect s t s.framer.note v) ∧
    (s.framer.st.toNat / 16 = 8 → s.framer.st ≠ 0x85#8 → ReleaseEffect s t s.framer.note) ∧
    (s.framer.st.toNat / 16 ≠ 8 → s.framer.st.toNat / 16 ≠ 9 → Emits s t [mix s.cfg] ∧ t.pool = s.pool)

/-- `Frame(b)` (40_step_and_framer.md R93): a step that takes a byte is exactly the four arms of the rule's pseudocode,
tried in their order, with the dispatch of the latched status in the last. -/
def Obligations.ByteStepIsTheFourArmsOfFrame : Prop :=
  ∀ (s : State) (b : Byte) (rest : List Input), s.input = .byte b :: rest →
    let v : Data := BitVec.ofNat 7 b.toNat
    let s0 : State := { s with input := rest, writes := [] }
    let d : State := { s0 with framer := { s0.framer with vel := v } }.dispatch s0.framer.st s0.framer.note v
    ∃ t, step s = .next t ∧ t.trace = s.trace ++ t.writes ∧ { t with trace := s.trace } =
      if b.getLsbD 7 = true then
        { s0 with framer := { stValid := true, st := b, cnt := 0#1, note := 0#7, vel := 0#7 } }
      else if s.framer.stValid = false then s0
      else if s.framer.cnt = 0#1 then { s0 with framer := { s0.framer with note := v, cnt := 1#1 } }
      else { d with framer := { d.framer with cnt := 0#1, note := 0#7, vel := 0#7 } }

/-- The phase moves as the table of 10_state.md R33 says: a status byte leads to `AwaitingData(0)` from any phase, a data
byte leads from `Idle` to `Idle`, from `AwaitingData(0)` to `AwaitingData(1)` and from `AwaitingData(1)` to
`AwaitingData(0)`, and `IDLE` leaves it; so `Idle`, once left, is not entered again by these events (the sentence of R33
that the spec marks as derived from the table). -/
def Obligations.PhaseFollowsTheTransitionTable : Prop :=
  (∀ (s : State) (b : Byte) (rest : List Input), s.input = .byte b :: rest → ∃ t, step s = .next t ∧
    t.phase =
      if 0x80 ≤ b.toNat then .awaiting0
      else match s.phase with
        | .idle => .idle
        | .awaiting0 => .awaiting1
        | .awaiting1 => .awaiting0) ∧
  (∀ s : State, s.nextInput = .idle → ∃ t, step s = .next t ∧ t.phase = s.phase) ∧
  (∀ s t : State, (s.nextInput = .idle ∨ ∃ b, s.nextInput = .byte b) → s.phase ≠ .idle → step s = .next t →
    t.phase ≠ .idle)

/-- RS by phase (30_encoding.md R87 (c), which the spec derives): in `Idle` two dropped bytes; in `AwaitingData(0)` the
two data bytes of a message under the latched status; in `AwaitingData(1)` the first byte completes the pending message
and the second begins another. -/
def Obligations.RunningStatusBytesByPhase : Prop :=
  ∀ (a b : Data) (s : State),
    (s.phase = .idle → exec (.rs a b) s = .next s) ∧
    (s.phase = .awaiting0 → ∃ u t, exec (.data1 a) s = .next u ∧ exec (.data2 b) u = .next t ∧
      exec (.rs a b) s = .next t) ∧
    (s.phase = .awaiting1 → ∃ u t, exec (.data2 a) s = .next u ∧ exec (.data1 b) u = .next t ∧
      exec (.rs a b) s = .next t)

/-- Running status (40_step_and_framer.md R100, which the spec derives): with a status byte latched and no data
collected, a continuation is the message of that status, 0x85 and the ignored ones included. -/
def Obligations.RunningStatusRepeatsTheLatchedOperation : Prop :=
  ∀ (op : BitVec 3) (ch : BitVec 4) (a b : Data) (s : State), s.framer.stValid = true → s.framer.cnt = 0#1 →
    s.framer.st = 1#1 ++ op ++ ch → ∃ t, exec (.rs a b) s = .next t ∧ exec (decodeMessage op ch a b) s = .next t

/-- A partial message is silently discarded (40_step_and_framer.md R101, which the spec derives): a status byte, one data
byte and another status byte dispatch nothing. -/
def Obligations.PartialMessageIsDiscarded : Prop :=
  ∀ (s : State) (b1 b2 b3 : Byte) (rest : List Input),
    s.input = .byte b1 :: .byte b2 :: .byte b3 :: rest → b1.getLsbD 7 = true → b2.getLsbD 7 = false →
    b3.getLsbD 7 = true →
    run 3 s = .next { s with framer := latched b3, input := rest, writes := [] }

/-! ### The watchdog -/

/-- TICK (43_watchdog.md R150; decisions D3, D5, D6 of the spec): the counter goes up by one modulo `2 ^ TICK_W`; when its
new value is no multiple of 1000 nothing else happens; when it is one, every occupied slot whose age is at least 4000
is cleared, the others keep their values, and the silence writes come in slot order with no preamble. The framer is
untouched. -/
def Obligations.TickCountsAndSweepsAtTheGate : Prop :=
  ∀ s : State, ∃ t, exec .tick s = .next t ∧ t.framer = s.framer ∧
    t.ticks = (s.ticks + 1) % 2 ^ s.cfg.tickW ∧
    (t.ticks % 1000 ≠ 0 → Emits s t [] ∧ t.pool = s.pool) ∧
    (t.ticks % 1000 = 0 →
      Emits s t ((([0, 1, 2] : List SlotIx).filter (evicts s t.ticks)).map (off s.cfg)) ∧
      ∀ i, t.pool.get i = if evicts s t.ticks i = true then { note := 0#7, t0 := 0 } else s.pool.get i)

/-- A free slot is skipped by a pass whatever its `t0`, one programmed by a note-on for note 0 included: it is not
changed, and it adds no write (43_watchdog.md R155). -/
def Obligations.FreeSlotsAreNeverSwept : Prop :=
  ∀ (s : State) (i : SlotIx) (k : Nat), (s.pool.get i).note = 0#7 → ∃ t u,
    exec .tick s = .next t ∧ t.pool.get i = s.pool.get i ∧
    exec .tick (s.setSlot i { note := 0#7, t0 := k }) = .next u ∧ u.writes = t.writes

/-- Tick subtraction is subtraction modulo `2 ^ w`: for tick values the result is the one tick value that added to the
subtrahend gives the minuend (00_scope.md R14). -/
def Obligations.TickSubtractionIsModular : Prop :=
  ∀ w a b : Nat, a < 2 ^ w → b < 2 ^ w →
    tickSub w a b < 2 ^ w ∧ (b + tickSub w a b) % 2 ^ w = a ∧ tickSub w a b = ageAt w a b

/-- In every run of 1000 consecutive `IDLE` steps there is a watchdog pass, with or without a wrap of the counter: one of
the steps ends with `T` a multiple of 1000, clears every slot that is occupied and old enough, keeps the others, and
writes the silences in slot order (43_watchdog.md R152 (d), which the spec derives). The `IDLE` events may be queued or
come from an empty input; that an empty input is `IDLE` is the model's choice (log 3). -/
def Obligations.ThousandIdleStepsHoldAPass : Prop :=
  ∀ s : State, coming s 1000 = List.replicate 1000 .idle → ∃ k x t, k < 1000 ∧ run k s = .next x ∧
    step x = .next t ∧ t.ticks % 1000 = 0 ∧ PassEffect x t t.writes

/-- When a hung note is evicted (43_watchdog.md R161, which the spec derives). From any state in which slot `i` has just
been allocated, let `BYTE` and `IDLE` steps follow in any order, at least 4999 of them `IDLE`. Then there is a step up to
which the slot keeps its value, and in which it loses it in one of two ways. Either the step takes a byte and completes a
message that releases or re-triggers the slot; or it is the `IDLE` step, from the 4000th to the 4999th counted without the
`BYTE` steps in between, that frees the slot and writes silence to its level register. That an empty input is `IDLE` is
the model's choice (log 3). -/
def Obligations.HungNoteIsEvictedWithin4999IdleSteps : Prop :=
  ∀ (s : State) (i : SlotIx) (N : Nat), Input.reset ∉ coming s N → 4999 ≤ (coming s N).count .idle →
    (s.pool.get i).note ≠ 0#7 → (s.pool.get i).t0 = s.ticks →
    ∃ k, k < N ∧ (∀ j, j ≤ k → ∃ t, run j s = .next t ∧ t.pool.get i = s.pool.get i) ∧
      ∃ x y, run k s = .next x ∧ step x = .next y ∧
        ((∃ b, x.nextInput = .byte b ∧ y.pool.get i ≠ s.pool.get i ∧
            (y.pool.get i = { note := 0#7, t0 := 0 } ∨
              y.pool.get i = { note := (s.pool.get i).note, t0 := x.ticks })) ∨
          (x.nextInput = .idle ∧ 4000 ≤ (coming s (k + 1)).count .idle ∧ (coming s (k + 1)).count .idle ≤ 4999 ∧
            y.pool.get i = { note := 0#7, t0 := 0 } ∧ off s.cfg i ∈ y.writes))

/-! ### Reset -/

/-- RESET (70_reset_and_hazards.md R190 to R192; decisions D17, D18 of the spec): from any state every register takes its
reset value and nothing is written; the configuration stays (R193) and the device keeps what it holds (R196). That the
coming input, the write list and the output trace are kept too is the model's choice (log 9). -/
def Obligations.ResetEventClearsEveryRegister : Prop :=
  (∀ s : State, exec .reset s = .next { s with
      framer := { stValid := false, st := 0x00#8, cnt := 0#1, note := 0#7, vel := 0#7 },
      pool := { v0 := { note := 0#7, t0 := 0 }, v1 := { note := 0#7, t0 := 0 }, v2 := { note := 0#7, t0 := 0 } },
      ticks := 0 }) ∧
  ∀ (s : State) (rest : List Input), s.input = .reset :: rest → ∃ t, step s = .next t ∧ t.writes = [] ∧
    t.phase = .idle ∧ t.device = s.device ∧ t.cfg = s.cfg

/-- The reset state (10_state.md R44, 70_reset_and_hazards.md R190; the values are decision D17 of the spec): every
register of R20 is 0, the phase is `Idle`, all slots are free. -/
def Obligations.ResetStateHasEveryRegisterZero : Prop :=
  State.reset.framer = { stValid := false, st := 0x00#8, cnt := 0#1, note := 0#7, vel := 0#7 } ∧
  (∀ i, State.reset.pool.get i = { note := 0#7, t0 := 0 }) ∧ State.reset.ticks = 0 ∧ State.reset.phase = .idle

/-- Reset does not change the constants, the configuration or the contents of `FTAB` (70_reset_and_hazards.md R193), nor
does any other step. -/
def Obligations.NoStepChangesTheConfiguration : Prop :=
  (∀ s t : State, exec .reset s = .next t → t.cfg = s.cfg ∧ t.cfg.ftab = s.cfg.ftab) ∧
  ∀ s t : State, step s = .next t → t.cfg = s.cfg

/-! ### Invariants -/

/-- The invariants hold of the reset state. The fourth, the output invariant, is about the model's own fields, and their
reset values, nothing output and nothing listed of the device, are the model's choices (log 5, log 6, log 9). -/
def Obligations.ResetStateMeetsTheInvariants : Prop :=
  FramerInv State.reset.framer ∧ UniqueHolder State.reset.pool ∧ TicksInRange State.reset ∧ OutputInv State.reset

/-- Every step keeps the framer invariants (10_state.md R41, which the spec derives). -/
def Obligations.EveryStepKeepsTheFramerInvariants : Prop :=
  ∀ s t : State, FramerInv s.framer → step s = .next t → FramerInv t.framer

/-- Every step and every instruction keep the unique-holder invariant: no two slots hold one non-zero note (10_state.md
R30, which the spec derives). -/
def Obligations.EveryStepKeepsTheUniqueHolder : Prop :=
  (∀ s t : State, UniqueHolder s.pool → step s = .next t → UniqueHolder t.pool) ∧
  ∀ (i : Instr) (s t : State), UniqueHolder s.pool → exec i s = .next t → UniqueHolder t.pool

/-- Every step keeps the tick counter and the stamps below `2 ^ TICK_W` (00_scope.md R12, R14). -/
def Obligations.EveryStepKeepsTicksInRange : Prop :=
  ∀ s t : State, TicksInRange s → step s = .next t → TicksInRange t

/-- Every step keeps the device register space in its canonical form and equal to what the output trace wrote, and the
write list at the end of the trace. (The device view and the trace field are the model's own, log 5 and log 6;
00_scope.md R16, 20_memory.md section 7.) -/
def Obligations.EveryStepKeepsTheOutputInvariant : Prop :=
  ∀ s t : State, OutputInv s → step s = .next t → OutputInv t

/-! ### Whole-machine rules -/

/-- Separation of the two event kinds (40_step_and_framer.md R104, which the spec derives): a step that takes a byte does
not change `T`, and an `IDLE` step changes no framer register. -/
def Obligations.BytesKeepTicksAndIdleKeepsTheFramer : Prop :=
  ∀ s t : State, step s = .next t →
    (s.nextInput ≠ .idle → s.nextInput ≠ .reset → t.ticks = s.ticks) ∧
    (s.nextInput = .idle → t.framer = s.framer)

/-- The shape of write lists (40_step_and_framer.md R103, 41_dispatcher.md R120, 43_watchdog.md R160, which the spec
derives or decides): STATUS, DATA_IDLE, DATA1 and RESET write nothing; DATA2 and every full message write the preamble
and at most three pairs after it; a running-status continuation the same, but nothing in `Idle`; TICK writes at most
three pairs, each silence on a slot's level register. For every instruction, and so for every step. (For a data row
outside its phase this is the model's choice, log 8.) -/
def Obligations.WriteListsHaveTheirShape : Prop :=
  (∀ (i : Instr) (s t : State), s.writes = [] → exec i s = .next t → WriteShape i s t.writes) ∧
  ∀ s t : State, step s = .next t → WriteShape s.fetch s t.writes

/-- The block emits no write that is not in the table of 20_memory.md R52: the preamble, the three writes of an
allocation, the silence of a release, and, only with 0x85 latched, a raw pair with both bytes at most 0x7F. For every
step, and for every instruction. -/
def Obligations.EveryWriteIsInTheWriteTable : Prop :=
  (∀ s t : State, step s = .next t → ∀ p ∈ t.writes, InWriteTable s.cfg t.framer.st p) ∧
  ∀ (i : Instr) (s t : State), s.writes = [] → exec i s = .next t → ∀ p ∈ t.writes, InWriteTable s.cfg t.framer.st p

/-- There is no voice stealing: in one step, and in one instruction, an occupied slot keeps its note or becomes free
(42_voice_pool.md R145, which the spec derives). -/
def Obligations.OccupiedSlotKeepsItsNoteOrIsFreed : Prop :=
  ∀ (s t : State) (i : SlotIx), (s.pool.get i).note ≠ 0#7 → (step s = .next t ∨ ∃ k, exec k s = .next t) →
    (t.pool.get i).note = (s.pool.get i).note ∨ (t.pool.get i).note = 0#7

/-- A note-off after a note-on with `v > 0` leaves no slot holding the note, for every note but 0, in every state with
unique holders (42_voice_pool.md R146 (a), which the spec derives). For a note-off on channel 5 this is the model's choice
(log 8): that message does not exist (30_encoding.md R82, R87 (b)). -/
def Obligations.ReleaseAfterAllocateLeavesNoHolder : Prop :=
  ∀ (c c' : BitVec 4) (n v w : Data) (s : State), n ≠ 0#7 → v ≠ 0#7 → UniqueHolder s.pool → ∃ t u,
    exec (.noteOn c n v) s = .next t ∧ exec (.noteOff c' n w) t = .next u ∧ ∀ i, (u.pool.get i).note ≠ n

/-- The high byte of every tone period is at most 0x0F, whatever the configuration (20_memory.md section 3, 00_scope.md
R9 (b)). -/
def Obligations.PeriodHighByteFitsFourBits : Prop :=
  ∀ (c : Cfg) (n : Data), (c.period n).toNat < 4096 ∧ (periodHigh (c.period n)).toNat ≤ 0x0F

/-- A full message is its three `BYTE` steps: from every state the three steps on its bytes lead where its row says, with
the row's writes in the third step and in the output trace (30_encoding.md R72, R86; a step takes one byte, log 4). -/
def Obligations.MessageUnitEqualsItsThreeByteSteps : Prop :=
  ∀ (i : Instr) (s : State) (rest : List Input), i.wellFormed = true → encodeBits i = 24 → s.input = encode i ++ rest →
    ∃ t, exec i { s with input := rest, writes := [] } = .next t ∧
      run 3 s = .next { t with trace := t.trace ++ t.writes }

/-- A running-status continuation is its two `BYTE` steps, in every phase: they lead where its row says, but for the write
list of the last step, and to the same output trace (30_encoding.md R73, R86, R87 (c); a step takes one byte, log 4). -/
def Obligations.RunningStatusUnitEqualsItsTwoByteSteps : Prop :=
  ∀ (a b : Data) (s : State) (rest : List Input), s.input = encode (.rs a b) ++ rest → ∃ t u,
    exec (.rs a b) { s with input := rest, writes := [] } = .next t ∧ run 2 s = .next u ∧
    { t with trace := t.trace ++ t.writes } = { u with writes := t.writes }

/-- What cannot be observed does not matter: two states that differ only in the device, in the output of earlier steps,
in `t0` of free slots and in `F.st` while it is invalid take steps with the same write list to states that again differ
only so (10_state.md R45, which the spec derives, and 20_memory.md section 1). -/
def Obligations.UnobservableStateDoesNotReachTheOutput : Prop :=
  ∀ s s' : State, SameToAnObserver s s' → ∃ t t', step s = .next t ∧ step s' = .next t' ∧
    t.writes = t'.writes ∧ SameToAnObserver t t'
end

