-- ==== Sys2Proof/Laws/Memory.lean ====
section
/-! SUPPORT. The laws of the device register space: a read after a write, and the canonical form kept by every
operation on it. -/

namespace Sys2Proof.Machine

@[simp] theorem Memory.read_nil (a : Nat) : Memory.read [] a = none := rfl

/-- A read after a write: the written address reads the written byte, every other address reads as before. -/
theorem Memory.read_write (m : Memory) (a : Nat) (b : Byte) (x : Nat) :
    (m.write a b).read x = if x = a then some b else m.read x := by
  induction m with
  | nil => simp [Memory.write, Memory.read]
  | cons c m ih =>
    simp only [Memory.write]
    split
    · simp [Memory.read]
    · split
      · rename_i h
        subst h
        by_cases hx : x = c.1 <;> simp [Memory.read, hx]
      · rename_i h
        simp only [Memory.read, ih]
        by_cases hx : x = c.1
        · have : x ≠ a := fun e => h (e.symm.trans hx)
          simp [hx]
          intro e
          exact absurd e.symm h
        · simp [hx]

/-- Every listed address of a memory after a write is the written one or was listed before. -/
theorem Memory.mem_write {m : Memory} {a : Nat} {b : Byte} {c : Host.Cell} (h : c ∈ m.write a b) :
    c = (a, b) ∨ c ∈ m := by
  induction m with
  | nil => simpa [Memory.write] using h
  | cons d m ih =>
    simp only [Memory.write] at h
    split at h
    · simpa using h
    · split at h
      · rcases List.mem_cons.1 h with h | h
        · exact .inl h
        · exact .inr (List.mem_cons_of_mem _ h)
      · rcases List.mem_cons.1 h with h | h
        · exact .inr (h ▸ List.mem_cons_self)
        · exact (ih h).imp_right (List.mem_cons_of_mem _)

/-- A write inside the 8-bit space keeps the canonical form. -/
theorem Memory.write_wf {m : Memory} (h : m.wf) {a : Nat} (ha : a < 256) (b : Byte) : (m.write a b).wf := by
  refine ⟨?_, fun c hc => ?_⟩
  · obtain ⟨h, -⟩ := h
    induction m with
    | nil => simp [Memory.write]
    | cons d m ih =>
      simp only [List.map_cons, List.pairwise_cons] at h
      simp only [Memory.write]
      split
      · rename_i hlt
        simp only [List.map_cons, List.pairwise_cons, List.mem_cons]
        refine ⟨fun x hx => ?_, h⟩
        rcases hx with rfl | hx
        · exact hlt
        · exact Nat.lt_trans hlt (h.1 x hx)
      · split
        · rename_i he
          simp only [List.map_cons, List.pairwise_cons]
          exact ⟨fun x hx => he ▸ h.1 x hx, h.2⟩
        · simp only [List.map_cons, List.pairwise_cons]
          refine ⟨fun x hx => ?_, ih h.2⟩
          obtain ⟨c, hc, rfl⟩ := List.mem_map.1 hx
          rcases Memory.mem_write hc with rfl | hc
          · show d.1 < a
            omega
          · exact h.1 _ (List.mem_map_of_mem hc)
  · rcases Memory.mem_write hc with rfl | hc
    · exact ha
    · exact h.2 c hc

/-- `emit` keeps the canonical form of the device register space. -/
theorem State.emit_device_wf {s : State} (h : s.device.wf) (a v : Byte) : (s.emit a v).device.wf :=
  Memory.write_wf h a.isLt v

/-- The device register space of the reset state has the canonical form. -/
theorem State.reset_device_wf : State.reset.device.wf := by
  refine ⟨List.Pairwise.nil, ?_⟩
  intro c hc
  cases hc

end Sys2Proof.Machine
end

