-- ==== Sys2Proof/Laws/State.lean ====
section
/-! SUPPORT. One lemma per field per update of the state, and of the pool: each update's own small lemmas. -/

namespace Sys2Proof.Machine

/-! ### `withFramer` -/

@[simp] theorem State.withFramer_cfg (s : State) (f : Framer) :
    (s.withFramer f).cfg = s.cfg := rfl
@[simp] theorem State.withFramer_framer (s : State) (f : Framer) :
    (s.withFramer f).framer = f := rfl
@[simp] theorem State.withFramer_pool (s : State) (f : Framer) :
    (s.withFramer f).pool = s.pool := rfl
@[simp] theorem State.withFramer_ticks (s : State) (f : Framer) :
    (s.withFramer f).ticks = s.ticks := rfl
@[simp] theorem State.withFramer_input (s : State) (f : Framer) :
    (s.withFramer f).input = s.input := rfl
@[simp] theorem State.withFramer_writes (s : State) (f : Framer) :
    (s.withFramer f).writes = s.writes := rfl
@[simp] theorem State.withFramer_trace (s : State) (f : Framer) :
    (s.withFramer f).trace = s.trace := rfl
@[simp] theorem State.withFramer_device (s : State) (f : Framer) :
    (s.withFramer f).device = s.device := rfl

/-! ### `withPool` -/

@[simp] theorem State.withPool_cfg (s : State) (p : Pool) :
    (s.withPool p).cfg = s.cfg := rfl
@[simp] theorem State.withPool_framer (s : State) (p : Pool) :
    (s.withPool p).framer = s.framer := rfl
@[simp] theorem State.withPool_pool (s : State) (p : Pool) :
    (s.withPool p).pool = p := rfl
@[simp] theorem State.withPool_ticks (s : State) (p : Pool) :
    (s.withPool p).ticks = s.ticks := rfl
@[simp] theorem State.withPool_input (s : State) (p : Pool) :
    (s.withPool p).input = s.input := rfl
@[simp] theorem State.withPool_writes (s : State) (p : Pool) :
    (s.withPool p).writes = s.writes := rfl
@[simp] theorem State.withPool_trace (s : State) (p : Pool) :
    (s.withPool p).trace = s.trace := rfl
@[simp] theorem State.withPool_device (s : State) (p : Pool) :
    (s.withPool p).device = s.device := rfl

/-! ### `withTicks` -/

@[simp] theorem State.withTicks_cfg (s : State) (t : Nat) :
    (s.withTicks t).cfg = s.cfg := rfl
@[simp] theorem State.withTicks_framer (s : State) (t : Nat) :
    (s.withTicks t).framer = s.framer := rfl
@[simp] theorem State.withTicks_pool (s : State) (t : Nat) :
    (s.withTicks t).pool = s.pool := rfl
@[simp] theorem State.withTicks_ticks (s : State) (t : Nat) :
    (s.withTicks t).ticks = t := rfl
@[simp] theorem State.withTicks_input (s : State) (t : Nat) :
    (s.withTicks t).input = s.input := rfl
@[simp] theorem State.withTicks_writes (s : State) (t : Nat) :
    (s.withTicks t).writes = s.writes := rfl
@[simp] theorem State.withTicks_trace (s : State) (t : Nat) :
    (s.withTicks t).trace = s.trace := rfl
@[simp] theorem State.withTicks_device (s : State) (t : Nat) :
    (s.withTicks t).device = s.device := rfl

/-! ### `setSlot` -/

@[simp] theorem State.setSlot_cfg (s : State) (i : SlotIx) (x : Slot) :
    (s.setSlot i x).cfg = s.cfg := rfl
@[simp] theorem State.setSlot_framer (s : State) (i : SlotIx) (x : Slot) :
    (s.setSlot i x).framer = s.framer := rfl
@[simp] theorem State.setSlot_pool (s : State) (i : SlotIx) (x : Slot) :
    (s.setSlot i x).pool = s.pool.set i x := rfl
@[simp] theorem State.setSlot_ticks (s : State) (i : SlotIx) (x : Slot) :
    (s.setSlot i x).ticks = s.ticks := rfl
@[simp] theorem State.setSlot_input (s : State) (i : SlotIx) (x : Slot) :
    (s.setSlot i x).input = s.input := rfl
@[simp] theorem State.setSlot_writes (s : State) (i : SlotIx) (x : Slot) :
    (s.setSlot i x).writes = s.writes := rfl
@[simp] theorem State.setSlot_trace (s : State) (i : SlotIx) (x : Slot) :
    (s.setSlot i x).trace = s.trace := rfl
@[simp] theorem State.setSlot_device (s : State) (i : SlotIx) (x : Slot) :
    (s.setSlot i x).device = s.device := rfl

/-! ### `emit` -/

@[simp] theorem State.emit_cfg (s : State) (a v : Byte) :
    (s.emit a v).cfg = s.cfg := rfl
@[simp] theorem State.emit_framer (s : State) (a v : Byte) :
    (s.emit a v).framer = s.framer := rfl
@[simp] theorem State.emit_pool (s : State) (a v : Byte) :
    (s.emit a v).pool = s.pool := rfl
@[simp] theorem State.emit_ticks (s : State) (a v : Byte) :
    (s.emit a v).ticks = s.ticks := rfl
@[simp] theorem State.emit_input (s : State) (a v : Byte) :
    (s.emit a v).input = s.input := rfl
@[simp] theorem State.emit_writes (s : State) (a v : Byte) :
    (s.emit a v).writes = s.writes ++ [(a, v)] := rfl
@[simp] theorem State.emit_trace (s : State) (a v : Byte) :
    (s.emit a v).trace = s.trace := rfl
@[simp] theorem State.emit_device (s : State) (a v : Byte) :
    (s.emit a v).device = s.device.write a.toNat v := rfl

/-! ### `preamble` -/

@[simp] theorem State.preamble_cfg (s : State) :
    s.preamble.cfg = s.cfg := rfl
@[simp] theorem State.preamble_framer (s : State) :
    s.preamble.framer = s.framer := rfl
@[simp] theorem State.preamble_pool (s : State) :
    s.preamble.pool = s.pool := rfl
@[simp] theorem State.preamble_ticks (s : State) :
    s.preamble.ticks = s.ticks := rfl
@[simp] theorem State.preamble_input (s : State) :
    s.preamble.input = s.input := rfl
@[simp] theorem State.preamble_writes (s : State) :
    s.preamble.writes = s.writes ++ [(s.cfg.mixerAddr, s.cfg.mixerVal)] := rfl
@[simp] theorem State.preamble_trace (s : State) :
    s.preamble.trace = s.trace := rfl
@[simp] theorem State.preamble_device (s : State) :
    s.preamble.device = s.device.write s.cfg.mixerAddr.toNat s.cfg.mixerVal := rfl

/-! ### `latchStatus` -/

@[simp] theorem State.latchStatus_cfg (s : State) (st : Byte) :
    (s.latchStatus st).cfg = s.cfg := rfl
@[simp] theorem State.latchStatus_framer (s : State) (st : Byte) :
    (s.latchStatus st).framer = { stValid := true, st := st, cnt := 0#1, note := 0#7, vel := 0#7 } := rfl
@[simp] theorem State.latchStatus_pool (s : State) (st : Byte) :
    (s.latchStatus st).pool = s.pool := rfl
@[simp] theorem State.latchStatus_ticks (s : State) (st : Byte) :
    (s.latchStatus st).ticks = s.ticks := rfl
@[simp] theorem State.latchStatus_input (s : State) (st : Byte) :
    (s.latchStatus st).input = s.input := rfl
@[simp] theorem State.latchStatus_writes (s : State) (st : Byte) :
    (s.latchStatus st).writes = s.writes := rfl
@[simp] theorem State.latchStatus_trace (s : State) (st : Byte) :
    (s.latchStatus st).trace = s.trace := rfl
@[simp] theorem State.latchStatus_device (s : State) (st : Byte) :
    (s.latchStatus st).device = s.device := rfl

/-! ### `takeFirstData` -/

@[simp] theorem State.takeFirstData_cfg (s : State) (d : Data) :
    (s.takeFirstData d).cfg = s.cfg := rfl
@[simp] theorem State.takeFirstData_framer (s : State) (d : Data) :
    (s.takeFirstData d).framer = { s.framer with note := d, cnt := 1#1 } := rfl
@[simp] theorem State.takeFirstData_pool (s : State) (d : Data) :
    (s.takeFirstData d).pool = s.pool := rfl
@[simp] theorem State.takeFirstData_ticks (s : State) (d : Data) :
    (s.takeFirstData d).ticks = s.ticks := rfl
@[simp] theorem State.takeFirstData_input (s : State) (d : Data) :
    (s.takeFirstData d).input = s.input := rfl
@[simp] theorem State.takeFirstData_writes (s : State) (d : Data) :
    (s.takeFirstData d).writes = s.writes := rfl
@[simp] theorem State.takeFirstData_trace (s : State) (d : Data) :
    (s.takeFirstData d).trace = s.trace := rfl
@[simp] theorem State.takeFirstData_device (s : State) (d : Data) :
    (s.takeFirstData d).device = s.device := rfl

/-! ### `countTick` -/

@[simp] theorem State.countTick_cfg (s : State) :
    s.countTick.cfg = s.cfg := rfl
@[simp] theorem State.countTick_framer (s : State) :
    s.countTick.framer = s.framer := rfl
@[simp] theorem State.countTick_pool (s : State) :
    s.countTick.pool = s.pool := rfl
@[simp] theorem State.countTick_ticks (s : State) :
    s.countTick.ticks = tickSucc s.cfg.tickW s.ticks := rfl
@[simp] theorem State.countTick_input (s : State) :
    s.countTick.input = s.input := rfl
@[simp] theorem State.countTick_writes (s : State) :
    s.countTick.writes = s.writes := rfl
@[simp] theorem State.countTick_trace (s : State) :
    s.countTick.trace = s.trace := rfl
@[simp] theorem State.countTick_device (s : State) :
    s.countTick.device = s.device := rfl

/-! ### `resetEvent` -/

@[simp] theorem State.resetEvent_cfg (s : State) :
    s.resetEvent.cfg = s.cfg := rfl
@[simp] theorem State.resetEvent_framer (s : State) :
    s.resetEvent.framer = Framer.reset := rfl
@[simp] theorem State.resetEvent_pool (s : State) :
    s.resetEvent.pool = Pool.reset := rfl
@[simp] theorem State.resetEvent_ticks (s : State) :
    s.resetEvent.ticks = 0 := rfl
@[simp] theorem State.resetEvent_input (s : State) :
    s.resetEvent.input = s.input := rfl
@[simp] theorem State.resetEvent_writes (s : State) :
    s.resetEvent.writes = s.writes := rfl
@[simp] theorem State.resetEvent_trace (s : State) :
    s.resetEvent.trace = s.trace := rfl
@[simp] theorem State.resetEvent_device (s : State) :
    s.resetEvent.device = s.device := rfl

/-! ### `beginStep` -/

@[simp] theorem State.beginStep_cfg (s : State) :
    s.beginStep.cfg = s.cfg := rfl
@[simp] theorem State.beginStep_framer (s : State) :
    s.beginStep.framer = s.framer := rfl
@[simp] theorem State.beginStep_pool (s : State) :
    s.beginStep.pool = s.pool := rfl
@[simp] theorem State.beginStep_ticks (s : State) :
    s.beginStep.ticks = s.ticks := rfl
@[simp] theorem State.beginStep_input (s : State) :
    s.beginStep.input = s.input.tail := rfl
@[simp] theorem State.beginStep_writes (s : State) :
    s.beginStep.writes = [] := rfl
@[simp] theorem State.beginStep_trace (s : State) :
    s.beginStep.trace = s.trace := rfl
@[simp] theorem State.beginStep_device (s : State) :
    s.beginStep.device = s.device := rfl

/-! ### `endStep` -/

@[simp] theorem State.endStep_cfg (s : State) :
    s.endStep.cfg = s.cfg := rfl
@[simp] theorem State.endStep_framer (s : State) :
    s.endStep.framer = s.framer := rfl
@[simp] theorem State.endStep_pool (s : State) :
    s.endStep.pool = s.pool := rfl
@[simp] theorem State.endStep_ticks (s : State) :
    s.endStep.ticks = s.ticks := rfl
@[simp] theorem State.endStep_input (s : State) :
    s.endStep.input = s.input := rfl
@[simp] theorem State.endStep_writes (s : State) :
    s.endStep.writes = s.writes := rfl
@[simp] theorem State.endStep_trace (s : State) :
    s.endStep.trace = s.trace ++ s.writes := rfl
@[simp] theorem State.endStep_device (s : State) :
    s.endStep.device = s.device := rfl

/-! ### `present` -/

@[simp] theorem State.present_input (s : State) (us : List Input) :
    (s.present us).input = us ++ s.input := rfl
@[simp] theorem State.present_cfg (s : State) (us : List Input) :
    (s.present us).cfg = s.cfg := rfl
@[simp] theorem State.present_framer (s : State) (us : List Input) :
    (s.present us).framer = s.framer := rfl
@[simp] theorem State.present_pool (s : State) (us : List Input) :
    (s.present us).pool = s.pool := rfl
@[simp] theorem State.present_ticks (s : State) (us : List Input) :
    (s.present us).ticks = s.ticks := rfl
@[simp] theorem State.present_writes (s : State) (us : List Input) :
    (s.present us).writes = s.writes := rfl
@[simp] theorem State.present_trace (s : State) (us : List Input) :
    (s.present us).trace = s.trace := rfl
@[simp] theorem State.present_device (s : State) (us : List Input) :
    (s.present us).device = s.device := rfl

/-! ### The pool -/

@[simp] theorem Pool.get_zero (p : Pool) : p.get 0 = p.v0 := rfl
@[simp] theorem Pool.get_one (p : Pool) : p.get 1 = p.v1 := rfl
@[simp] theorem Pool.get_two (p : Pool) : p.get 2 = p.v2 := rfl

/-- Reading a slot after replacing one. -/
theorem Pool.get_set (p : Pool) (i j : SlotIx) (x : Slot) : (p.set i x).get j = if j = i then x else p.get j := by
  fin_cases i <;> fin_cases j <;> rfl

/-- Two pools with the same slots are the same pool. -/
theorem Pool.ext_get {p q : Pool} (h : ∀ i, p.get i = q.get i) : p = q := by
  obtain ⟨a, b, c⟩ := p
  obtain ⟨d, e, f⟩ := q
  exact congr (congr (congrArg Pool.mk (h 0)) (h 1)) (h 2)

@[simp] theorem Pool.reset_get (i : SlotIx) : Pool.reset.get i = Slot.cleared := by
  fin_cases i <;> rfl

end Sys2Proof.Machine
end

