-- ==== Sys2Proof/Laws/Pool.lean ====
section
/-! SUPPORT. What the scans over the slots find (00_scope.md R17, 42_voice_pool.md R134, R141). -/

namespace Sys2Proof.Machine

open Sys2Proof.Safety

/-- A scan finds slot `i` exactly when `P` holds there and at no earlier slot. -/
theorem firstSlot_eq_some (P : SlotIx → Bool) (i : SlotIx) :
    firstSlot P = some i ↔ P i = true ∧ ∀ j, j < i → P j = false := by
  simp only [firstSlot, Fin.forall_fin_succ]
  rcases h0 : P 0 <;> rcases h1 : P 1 <;> rcases h2 : P 2 <;> fin_cases i <;> simp_all

/-- A scan finds nothing exactly when `P` holds nowhere. -/
theorem firstSlot_eq_none (P : SlotIx → Bool) : firstSlot P = none ↔ ∀ i, P i = false := by
  simp only [firstSlot, Fin.forall_fin_succ]
  rcases h0 : P 0 <;> rcases h1 : P 1 <;> rcases h2 : P 2 <;> simp_all

/-- The holder is the first slot that holds the note. -/
theorem Pool.holder_eq_some (p : Pool) (n : Data) (i : SlotIx) : p.holder n = some i ↔ FirstHolding p n i := by
  simp [Pool.holder, firstSlot_eq_some, Pool.holds, FirstHolding]

/-- There is no holder exactly when no slot holds the note. -/
theorem Pool.holder_eq_none (p : Pool) (n : Data) : p.holder n = none ↔ ∀ i, (p.get i).note ≠ n := by
  simp [Pool.holder, firstSlot_eq_none, Pool.holds]

/-- `Select(n)` is the holder of `n`, or the first free slot when no slot holds `n` (R134). -/
theorem Pool.select_eq_some (p : Pool) (n : Data) (i : SlotIx) : p.select n = some i ↔ Selected p n i := by
  unfold Pool.select Selected
  cases h : p.holder n with
  | some j =>
    have hj := (p.holder_eq_some n j).1 h
    rw [← p.holder_eq_some n i, h]
    constructor
    · exact .inl
    · rintro (h' | h')
      · exact h'
      · exact absurd hj.1 (h'.1 j)
  | none =>
    have hn := (p.holder_eq_none n).1 h
    simp only [Config.free, p.holder_eq_some]
    constructor
    · exact fun h' => .inr ⟨hn, h'⟩
    · rintro (h' | h')
      · exact absurd h'.1 (hn i)
      · exact h'.2

/-- `Select(n)` gives nothing exactly when no slot is selected. -/
theorem Pool.select_eq_none (p : Pool) (n : Data) : p.select n = none ↔ ∀ i, ¬ Selected p n i := by
  simp [← p.select_eq_some n, Option.eq_none_iff_forall_ne_some]

end Sys2Proof.Machine
end

