-- ==== Sys2Proof/Laws/Ops.lean ====
section
/-! SUPPORT. One lemma per shared operation that says once what it does: its writes, its effect on the pool and what it
leaves alone. The proofs about instructions cite these and unfold nothing. -/

namespace Sys2Proof.Machine

open Sys2Proof.Safety

/-! ### Emitting -/

/-- A state emits nothing towards itself. -/
theorem emits_refl (s : State) : Emits s s [] := by simp [Emits, lastWriteTo]

/-- `emit` emits its one pair. -/
theorem emit_emits (s : State) (a v : Byte) : Emits s (s.emit a v) [(a, v)] := by
  refine ⟨rfl, rfl, rfl, rfl, fun x => ?_⟩
  simp only [State.emit_device, Memory.read_write, lastWriteTo, List.reverse_singleton, List.find?_singleton]
  by_cases h : x = a.toNat
  · simp [h]
  · have h' : ¬ a.toNat = x := fun e => h e.symm
    simp [h, h']

/-- Emissions follow one another. -/
theorem emits_trans {s t u : State} {ws ws' : List Write} (h : Emits s t ws) (h' : Emits t u ws') :
    Emits s u (ws ++ ws') := by
  obtain ⟨a1, a2, a3, a4, a5⟩ := h
  obtain ⟨b1, b2, b3, b4, b5⟩ := h'
  refine ⟨b1.trans a1, b2.trans a2, b3.trans a3, by rw [b4, a4, List.append_assoc], fun x => ?_⟩
  simp only [b5, a5, lastWriteTo, List.reverse_append, List.find?_append]
  cases h1 : ws'.reverse.find? fun p => p.1.toNat == x <;> simp

/-- Emission does not depend on the block's registers. -/
theorem emits_congr {s s' t t' : State} {ws : List Write} (h : Emits s t ws)
    (hs : s'.cfg = s.cfg ∧ s'.input = s.input ∧ s'.trace = s.trace ∧ s'.writes = s.writes ∧ s'.device = s.device)
    (ht : t'.cfg = t.cfg ∧ t'.input = t.input ∧ t'.trace = t.trace ∧ t'.writes = t.writes ∧ t'.device = t.device) :
    Emits s' t' ws := by
  simpa [Emits, hs, ht] using h

theorem preamble_emits (s : State) : Emits s s.preamble [mix s.cfg] := emit_emits s _ _

/-! ### The voice pool -/

/-- `ReleaseSlot(i)` writes silence to the slot's level register and frees the slot (42_voice_pool.md R132). -/
theorem releaseSlot_spec (s : State) (i : SlotIx) :
    Emits s (s.releaseSlot i) [off s.cfg i] ∧ (s.releaseSlot i).pool = s.pool.set i Slot.cleared ∧
      (s.releaseSlot i).framer = s.framer ∧ (s.releaseSlot i).ticks = s.ticks :=
  ⟨emits_congr (emit_emits s _ _) ⟨rfl, rfl, rfl, rfl, rfl⟩ ⟨rfl, rfl, rfl, rfl, rfl⟩, rfl, rfl, rfl⟩

/-- The two bytes of a period are its remainder and its quotient by 256. -/
theorem periodLow_eq (p : Period) : periodLow p = BitVec.ofNat 8 (p.toNat % 256) := by
  apply BitVec.eq_of_toNat_eq
  simp [periodLow, BitVec.extractLsb'_toNat]

theorem periodHigh_eq (p : Period) : periodHigh p = BitVec.ofNat 8 (p.toNat / 256) := by
  apply BitVec.eq_of_toNat_eq
  simp [periodHigh, BitVec.extractLsb'_toNat, Nat.shiftRight_eq_div_pow]

/-- Programming a slot emits `ON(i, n)` and stamps the slot (42_voice_pool.md R136 to R139). -/
theorem programSlot_spec (s : State) (i : SlotIx) (n : Data) :
    Emits s (s.programSlot i n) (on s.cfg i n) ∧
      (s.programSlot i n).pool = s.pool.set i { note := n, t0 := s.ticks } ∧
      (s.programSlot i n).framer = s.framer ∧ (s.programSlot i n).ticks = s.ticks := by
  refine ⟨?_, rfl, rfl, rfl⟩
  have h1 := emit_emits s (s.cfg.slot i).level s.cfg.levelMax
  have h2 := emits_trans h1 (emit_emits _ (s.cfg.slot i).flsb (periodLow (s.cfg.period n)))
  have h3 := emits_trans h2 (emit_emits _ (s.cfg.slot i).fmsb (periodHigh (s.cfg.period n)))
  rw [periodLow_eq, periodHigh_eq] at h3
  exact emits_congr h3 ⟨rfl, rfl, rfl, rfl, rfl⟩
    (by rw [← periodLow_eq, ← periodHigh_eq]; exact ⟨rfl, rfl, rfl, rfl, rfl⟩)

/-- `Release(n)` by case: there is a first holder, which is released, or there is none and nothing happens
(42_voice_pool.md R141, R142). -/
theorem release_cases (s : State) (n : Data) :
    (∃ i, FirstHolding s.pool n i ∧ s.release n = s.releaseSlot i) ∨
      ((∀ i, (s.pool.get i).note ≠ n) ∧ s.release n = s) := by
  unfold State.release
  cases h : s.pool.holder n with
  | some i => exact .inl ⟨i, (s.pool.holder_eq_some n i).1 h, rfl⟩
  | none => exact .inr ⟨(s.pool.holder_eq_none n).1 h, rfl⟩

/-- `Allocate(n, v)` by case (42_voice_pool.md R133): a release, a programmed slot, or a dropped note. -/
theorem allocate_cases (s : State) (n v : Data) :
    (v = 0#7 ∧ s.allocate n v = s.release n) ∨
      (v ≠ 0#7 ∧ ∃ i, Selected s.pool n i ∧ s.allocate n v = s.programSlot i n) ∨
      (v ≠ 0#7 ∧ (∀ i, ¬ Selected s.pool n i) ∧ s.allocate n v = s) := by
  unfold State.allocate
  by_cases hv : v = 0#7
  · exact .inl ⟨hv, by simp [hv]⟩
  · simp only [hv, if_false]
    cases h : s.pool.select n with
    | some i => exact .inr (.inl ⟨hv, i, (s.pool.select_eq_some n i).1 h, rfl⟩)
    | none => exact .inr (.inr ⟨hv, (s.pool.select_eq_none n).1 h, rfl⟩)

/-- The first holder is unique. -/
theorem firstHolding_unique {p : Pool} {n : Data} {i j : SlotIx} (hi : FirstHolding p n i) (hj : FirstHolding p n j) :
    i = j := by
  rcases Nat.lt_trichotomy i.val j.val with h | h | h
  · exact absurd hi.1 (hj.2 i h)
  · exact Fin.ext h
  · exact absurd hj.1 (hi.2 j h)

/-- The selected slot is unique. -/
theorem selected_unique {p : Pool} {n : Data} {i j : SlotIx} (hi : Selected p n i) (hj : Selected p n j) : i = j := by
  have := (p.select_eq_some n i).2 hi
  rw [(p.select_eq_some n j).2 hj] at this
  exact (Option.some.inj this).symm

/-- A release leaves the framer, the tick counter, the configuration, the input and the trace alone. -/
theorem release_frame (s : State) (n : Data) :
    (s.release n).framer = s.framer ∧ (s.release n).ticks = s.ticks ∧ (s.release n).cfg = s.cfg ∧
      (s.release n).input = s.input ∧ (s.release n).trace = s.trace := by
  rcases release_cases s n with ⟨i, -, h⟩ | ⟨-, h⟩ <;> rw [h] <;> exact ⟨rfl, rfl, rfl, rfl, rfl⟩

/-- An allocation leaves the framer, the tick counter, the configuration, the input and the trace alone. -/
theorem allocate_frame (s : State) (n v : Data) :
    (s.allocate n v).framer = s.framer ∧ (s.allocate n v).ticks = s.ticks ∧ (s.allocate n v).cfg = s.cfg ∧
      (s.allocate n v).input = s.input ∧ (s.allocate n v).trace = s.trace := by
  rcases allocate_cases s n v with ⟨-, h⟩ | ⟨-, i, -, h⟩ | ⟨-, -, h⟩ <;> rw [h]
  · exact release_frame s n
  · exact ⟨rfl, rfl, rfl, rfl, rfl⟩
  · exact ⟨rfl, rfl, rfl, rfl, rfl⟩

/-! ### The dispatcher -/

/-- `Dispatch` by case, in the order of its tests (41_dispatcher.md R110, R111). -/
theorem dispatch_cases (s : State) (st : Byte) (n v : Data) :
    (st = stRawWrite ∧ s.dispatch st n v = s.preamble.emit (zext8 n) (zext8 v)) ∨
      (st ≠ stRawWrite ∧ command st = cmdNoteOn ∧ s.dispatch st n v = s.preamble.allocate n v) ∨
      (st ≠ stRawWrite ∧ command st = cmdNoteOff ∧ s.dispatch st n v = s.preamble.release n) ∨
      (st ≠ stRawWrite ∧ command st ≠ cmdNoteOn ∧ command st ≠ cmdNoteOff ∧ s.dispatch st n v = s.preamble) := by
  unfold State.dispatch
  by_cases h1 : st = stRawWrite
  · exact .inl ⟨h1, by simp [h1]⟩
  by_cases h2 : command st = cmdNoteOn
  · exact .inr (.inl ⟨h1, h2, by simp [h1, h2]⟩)
  by_cases h3 : command st = cmdNoteOff
  · exact .inr (.inr (.inl ⟨h1, h3, by rw [if_neg h1, if_neg h2, if_pos h3]⟩))
  · exact .inr (.inr (.inr ⟨h1, h2, h3, by simp [h1, h2, h3]⟩))

/-- A dispatch leaves the framer, the tick counter, the configuration, the input and the trace alone. -/
theorem dispatch_frame (s : State) (st : Byte) (n v : Data) :
    (s.dispatch st n v).framer = s.framer ∧ (s.dispatch st n v).ticks = s.ticks ∧ (s.dispatch st n v).cfg = s.cfg ∧
      (s.dispatch st n v).input = s.input ∧ (s.dispatch st n v).trace = s.trace := by
  rcases dispatch_cases s st n v with ⟨-, h⟩ | ⟨-, -, h⟩ | ⟨-, -, h⟩ | ⟨-, -, -, h⟩ <;> rw [h]
  · exact ⟨rfl, rfl, rfl, rfl, rfl⟩
  · exact allocate_frame s.preamble n v
  · exact release_frame s.preamble n
  · exact ⟨rfl, rfl, rfl, rfl, rfl⟩

/-! ### The framer -/

/-- `Frame(b)` by case (40_step_and_framer.md R93, R94). -/
theorem frame_cases (s : State) (b : Byte) :
    (isStatus b = true ∧ s.frame b = s.latchStatus b) ∨
      (isStatus b = false ∧ s.framer.stValid = false ∧ s.frame b = s) ∨
      (isStatus b = false ∧ s.framer.stValid = true ∧ s.framer.cnt = 0#1 ∧ s.frame b = s.takeFirstData (dataVal b)) ∨
      (isStatus b = false ∧ s.framer.stValid = true ∧ s.framer.cnt ≠ 0#1 ∧
        s.frame b = s.takeSecondData (dataVal b)) := by
  unfold State.frame
  rcases h1 : isStatus b with _ | _
  · rcases h2 : s.framer.stValid with _ | _
    · exact .inr (.inl ⟨rfl, rfl, by simp⟩)
    · by_cases h3 : s.framer.cnt = 0#1
      · exact .inr (.inr (.inl ⟨rfl, rfl, h3, by simp [h3]⟩))
      · exact .inr (.inr (.inr ⟨rfl, rfl, h3, by simp [h3]⟩))
  · exact .inl ⟨rfl, by simp⟩

/-- The row a byte selects has exactly the effect of `Frame(b)`: the decoder and the framer split the bytes alike
(30_encoding.md R88, 40_step_and_framer.md R93, R94). -/
theorem exec_decodeByte (s : State) (b : Byte) : exec (decodeByte s.phase b) s = .next (s.frame b) := by
  unfold decodeByte State.phase
  rcases frame_cases s b with ⟨h1, h⟩ | ⟨h1, h2, h⟩ | ⟨h1, h2, h3, h⟩ | ⟨h1, h2, h3, h⟩ <;> rw [h]
  · rw [if_pos h1]
    have : statusByte (opField b) (chField b) = b := by
      clear h
      revert b
      decide
    show Host.Outcome.next _ = _
    rw [this]
  all_goals simp [*]
  all_goals rfl

/-- One event as a run of events is the row it selects (30_encoding.md R88). -/
@[simp] theorem decode_singleton (ph : Phase) (u : Input) : decode ph [u] = .ok (decodeEvent ph u) := by
  cases u <;> rfl

/-- A step is exec of the fetched row between its beginning and its end (40_step_and_framer.md R90). -/
theorem step_of_exec {s t : State} (h : exec s.fetch s.beginStep = .next t) : step s = .next t.endStep := by
  simp [step, h]

/-! ### The watchdog -/

/-- One slot of a pass by case (43_watchdog.md R155, R157, R159). -/
theorem sweepSlot_cases (s : State) (i : SlotIx) :
    (s.expired i = true ∧ s.sweepSlot i = s.releaseSlot i) ∨ (s.expired i = false ∧ s.sweepSlot i = s) := by
  unfold State.sweepSlot
  rcases h : s.expired i with _ | _
  · exact .inr ⟨rfl, by simp⟩
  · exact .inl ⟨rfl, by simp⟩

/-- The sweep of one slot leaves every other slot alone (43_watchdog.md R154). -/
theorem sweepSlot_other (s : State) {i j : SlotIx} (h : j ≠ i) : (s.sweepSlot i).pool.get j = s.pool.get j := by
  rcases sweepSlot_cases s i with ⟨-, e⟩ | ⟨-, e⟩ <;> rw [e]
  rw [(releaseSlot_spec s i).2.1, Pool.get_set, if_neg h]

/-- Tick subtraction stays below the modulus. -/
theorem tickSub_lt (w a b : Nat) : tickSub w a b < 2 ^ w := Nat.mod_lt _ (Nat.two_pow_pos w)

end Sys2Proof.Machine
end

