-- ==== Sys2Proof/Laws/PerInstr.lean ====
section
/-! SUPPORT. The per-instruction family `FormatWidth`: the encoding of an instruction has the number of bits its row of
spec/opcode_table.json gives (30_encoding.md R71 to R73, R88), and no byte of it but a leading status byte has bit 7
set (R70). -/

namespace Sys2Proof.Laws

open Sys2Proof

/-- The width of the row's format: 24 for `M3`, 16 for `M2`, 8 for `S` and `D`, 0 for an event. -/
def rowBits : Instr → Nat
  | .rawWrite _ _ => 24
  | .noteOn _ _ _ => 24
  | .noteOff _ _ _ => 24
  | .ignoredA0 _ _ _ => 24
  | .ignoredB0 _ _ _ => 24
  | .ignoredC0 _ _ _ => 24
  | .ignoredD0 _ _ _ => 24
  | .ignoredE0 _ _ _ => 24
  | .ignoredF0 _ _ _ => 24
  | .rs _ _ => 16
  | .status _ _ => 8
  | .dataIdle _ => 8
  | .data1 _ => 8
  | .data2 _ => 8
  | .tick => 0
  | .reset => 0

/-- A byte made by `dataByte` is a data byte (R70). -/
theorem isStatus_dataByte (d : Data) : isStatus (dataByte d) = false := by
  revert d
  decide

/-- A byte made by `statusByte` is a status byte (R70). -/
theorem isStatus_statusByte (o : BitVec 3) (c : BitVec 4) : isStatus (statusByte o c) = true := by
  revert o c
  decide

/-- The statement of the family for one instruction. -/
def FormatWidth.Statement (i : Instr) : Prop :=
  encodeBits i = rowBits i ∧ ∀ b ∈ (encodeBytes i).tail, isStatus b = false

theorem FormatWidth.rawWrite (a d : Data) : FormatWidth.Statement (.rawWrite a d) :=
  ⟨rfl, by simp [encodeBytes, encode, messageEvents, eventBytes, isStatus_dataByte]⟩
theorem FormatWidth.noteOn (c : BitVec 4) (n v : Data) : FormatWidth.Statement (.noteOn c n v) :=
  ⟨rfl, by simp [encodeBytes, encode, messageEvents, eventBytes, isStatus_dataByte]⟩
theorem FormatWidth.noteOff (c : BitVec 4) (n v : Data) : FormatWidth.Statement (.noteOff c n v) :=
  ⟨rfl, by simp [encodeBytes, encode, messageEvents, eventBytes, isStatus_dataByte]⟩
theorem FormatWidth.ignoredA0 (c : BitVec 4) (x y : Data) : FormatWidth.Statement (.ignoredA0 c x y) :=
  ⟨rfl, by simp [encodeBytes, encode, messageEvents, eventBytes, isStatus_dataByte]⟩
theorem FormatWidth.ignoredB0 (c : BitVec 4) (x y : Data) : FormatWidth.Statement (.ignoredB0 c x y) :=
  ⟨rfl, by simp [encodeBytes, encode, messageEvents, eventBytes, isStatus_dataByte]⟩
theorem FormatWidth.ignoredC0 (c : BitVec 4) (x y : Data) : FormatWidth.Statement (.ignoredC0 c x y) :=
  ⟨rfl, by simp [encodeBytes, encode, messageEvents, eventBytes, isStatus_dataByte]⟩
theorem FormatWidth.ignoredD0 (c : BitVec 4) (x y : Data) : FormatWidth.Statement (.ignoredD0 c x y) :=
  ⟨rfl, by simp [encodeBytes, encode, messageEvents, eventBytes, isStatus_dataByte]⟩
theorem FormatWidth.ignoredE0 (c : BitVec 4) (x y : Data) : FormatWidth.Statement (.ignoredE0 c x y) :=
  ⟨rfl, by simp [encodeBytes, encode, messageEvents, eventBytes, isStatus_dataByte]⟩
theorem FormatWidth.ignoredF0 (c : BitVec 4) (x y : Data) : FormatWidth.Statement (.ignoredF0 c x y) :=
  ⟨rfl, by simp [encodeBytes, encode, messageEvents, eventBytes, isStatus_dataByte]⟩
theorem FormatWidth.rs (a b : Data) : FormatWidth.Statement (.rs a b) :=
  ⟨rfl, by simp [encodeBytes, encode, eventBytes, isStatus_dataByte]⟩
theorem FormatWidth.status (o : BitVec 3) (c : BitVec 4) : FormatWidth.Statement (.status o c) :=
  ⟨rfl, by simp [encodeBytes, encode, eventBytes]⟩
theorem FormatWidth.dataIdle (v : Data) : FormatWidth.Statement (.dataIdle v) :=
  ⟨rfl, by simp [encodeBytes, encode, eventBytes]⟩
theorem FormatWidth.data1 (v : Data) : FormatWidth.Statement (.data1 v) :=
  ⟨rfl, by simp [encodeBytes, encode, eventBytes]⟩
theorem FormatWidth.data2 (v : Data) : FormatWidth.Statement (.data2 v) :=
  ⟨rfl, by simp [encodeBytes, encode, eventBytes]⟩
theorem FormatWidth.tick : FormatWidth.Statement .tick :=
  ⟨rfl, by simp [encodeBytes, encode, eventBytes]⟩
theorem FormatWidth.reset : FormatWidth.Statement .reset :=
  ⟨rfl, by simp [encodeBytes, encode, eventBytes]⟩

end Sys2Proof.Laws
end

