-- ==== Sys2Proof/Tests/Slice0.lean ====
section
/-! SUPPORT. Tests: words written out from the encodings of 30_encoding.md, single steps with the results that
95_test_vectors.md gives for `CFG_REF`, and, for every statement with hypotheses, a state and operands that meet them. -/

namespace Sys2Proof.Tests

open Sys2Proof Sys2Proof.Machine Sys2Proof.Safety

/-! ### The reference configuration (93_implementation_defined.md section 3), for tests only -/

/-- Entries 0 to 31 of `FTAB_REF`. -/
def ftabRef0 : List (BitVec 12) :=
  [0x000, 0x000, 0x000, 0x000, 0x000, 0x000, 0x000, 0x000,
   0x000, 0x000, 0x000, 0x000, 0x000, 0x000, 0x000, 0x000,
   0x000, 0x000, 0x000, 0x000, 0x000, 0x000, 0xF72, 0xE94,
   0xDC3, 0xCFD, 0xC42, 0xB92, 0xAEC, 0xA4F, 0x9BB, 0x92F]

/-- Entries 32 to 63 of `FTAB_REF`. -/
def ftabRef1 : List (BitVec 12) :=
  [0x8AB, 0x82F, 0x7B9, 0x74A, 0x6E1, 0x67E, 0x621, 0x5C9,
   0x576, 0x527, 0x4DD, 0x498, 0x456, 0x417, 0x3DC, 0x3A5,
   0x371, 0x33F, 0x311, 0x2E5, 0x2BB, 0x294, 0x26F, 0x24C,
   0x22B, 0x20C, 0x1EE, 0x1D3, 0x1B8, 0x1A0, 0x188, 0x172]

/-- Entries 64 to 95 of `FTAB_REF`. -/
def ftabRef2 : List (BitVec 12) :=
  [0x15D, 0x14A, 0x137, 0x126, 0x115, 0x106, 0x0F7, 0x0E9,
   0x0DC, 0x0D0, 0x0C4, 0x0B9, 0x0AF, 0x0A5, 0x09C, 0x093,
   0x08B, 0x083, 0x07C, 0x075, 0x06E, 0x068, 0x062, 0x05D,
   0x057, 0x052, 0x04E, 0x049, 0x045, 0x041, 0x03E, 0x03A]

/-- Entries 96 to 127 of `FTAB_REF`. -/
def ftabRef3 : List (BitVec 12) :=
  [0x037, 0x034, 0x031, 0x02E, 0x02C, 0x029, 0x027, 0x025,
   0x023, 0x021, 0x01F, 0x01D, 0x01C, 0x01A, 0x019, 0x017,
   0x016, 0x015, 0x013, 0x012, 0x011, 0x010, 0x00F, 0x00F,
   0x00E, 0x00D, 0x00C, 0x00C, 0x00B, 0x00A, 0x00A, 0x009]

/-- `FTAB_REF`. -/
def ftabRef : Vector (BitVec 12) 128 := ⟨(ftabRef0 ++ ftabRef1 ++ ftabRef2 ++ ftabRef3).toArray, rfl⟩

/-- `CFG_REF`. -/
def cfgRef : Cfg :=
  { tickExtra := 3, slot0 := ⟨0x08, 0x00, 0x01⟩, slot1 := ⟨0x09, 0x02, 0x03⟩, slot2 := ⟨0x0A, 0x04, 0x05⟩,
    mixerAddr := 0x07, mixerVal := 0x38, levelMax := 0x0F, ftab := ftabRef }

/-- The reset state under `CFG_REF` with some input to come. -/
def fresh (inp : List Input) : State := { State.resetWith cfgRef with input := inp }

/-- A state under `CFG_REF` with a status byte latched, a pool given as (note, t0) pairs, and some input to come. -/
def mid (st : Byte) (a b c : Data × Nat) (t : Nat) (inp : List Input) : State :=
  { fresh inp with framer := latched st, ticks := t, pool := ⟨⟨a.1, a.2⟩, ⟨b.1, b.2⟩, ⟨c.1, c.2⟩⟩ }

/-- A field of the next state, if there is one. -/
def after (o : Host.Outcome State Fault Refusal) (f : State → α) : Option α :=
  match o with
  | .next t => some (f t)
  | .fault _ => none
  | .refused _ => none

/-- The step that completes a full message: its word placed in `s`. -/
def msgStep (s : State) (st : Byte) (d1 d2 : Data) : Host.Outcome State Fault Refusal :=
  step (s.withFetchWord 24 (st.toNat * 65536 + d1.toNat * 256 + d2.toNat))

/-! ### Well-formedness -/

theorem test_noteOff_channel5_refused : (Instr.noteOff 5 60 0).wellFormed = false := by decide
theorem test_noteOff_channel4_accepted : (Instr.noteOff 4 60 0).wellFormed = true := by decide

/-! ### Decoding: one word per constructor, written from the encodings of R71 to R73 and R78 -/

theorem test_decode_rawWrite : decodeTableWord 24 0b100001010000011100111000 = some (.rawWrite 7 0x38) := by decide
theorem test_decode_noteOn : decodeTableWord 24 0b100111110011110001100100 = some (.noteOn 15 60 100) := by decide
theorem test_decode_noteOff : decodeTableWord 24 0b100001100011110000000001 = some (.noteOff 6 60 1) := by decide
theorem test_decode_ignoredA0 : decodeTableWord 24 0b101011110000000100000010 = some (.ignoredA0 15 1 2) := by decide
theorem test_decode_ignoredB0 : decodeTableWord 24 0b101100110000000100000010 = some (.ignoredB0 3 1 2) := by decide
theorem test_decode_ignoredC0 : decodeTableWord 24 0b110000000000000100000010 = some (.ignoredC0 0 1 2) := by decide
theorem test_decode_ignoredD0 : decodeTableWord 24 0b110110010000000100000010 = some (.ignoredD0 9 1 2) := by decide
theorem test_decode_ignoredE0 : decodeTableWord 24 0b111000000000000100000010 = some (.ignoredE0 0 1 2) := by decide
theorem test_decode_ignoredF0 : decodeTableWord 24 0b111101110000000100000010 = some (.ignoredF0 7 1 2) := by decide
theorem test_decode_rs : decodeTableWord 16 0b0011110101100100 = some (.rs 61 100) := by decide
theorem test_decode_status : decodeTableWord 8 0b11111000 = some (.status 7 8) := by decide
theorem test_decode_dataIdle : decodeTableWord 8 0b00101101 = some (.dataIdle 45) := by decide
theorem test_decode_data1 : decodeWord .awaiting0 8 0b00111100 = .ok (.data1 60) := by decide
theorem test_decode_data2 : decodeWord .awaiting1 8 0b01111111 = .ok (.data2 127) := by decide
theorem test_decode_tick : decodeTableWord 0 0 = some .tick := by decide
theorem test_decode_reset : decode .awaiting1 [.reset] = .ok .reset := by decide
theorem test_word_with_status_bit_in_data2_refused :
    decodeWord .idle 24 0b100100000011110011100100 = .error .notStatusDataData := by decide
theorem test_word_of_four_bytes_refused : decodeWord .idle 32 0x903C6400 = .error .noSuchRow := by decide

/-! ### Steps, with the results of 95_test_vectors.md -/

/-- S-1, first row. -/
theorem test_noteOn_first_free_slot : after (msgStep (fresh []) 0x90 60 100) (fun t => (t.writes, t.pool.v0)) =
    some ([(0x07, 0x38), (0x08, 0x0F), (0x00, 0xB8), (0x01, 0x01)], ⟨60, 0⟩) := by decide
/-- P-7, second row: the holder wins over a free slot of lower index. -/
theorem test_noteOn_holder_wins :
    after (msgStep (mid 0x90 (0, 0) (62, 0) (64, 0) 5 []) 0x90 62 100) (fun t => (t.writes, t.pool)) =
      some ([(0x07, 0x38), (0x09, 0x0F), (0x02, 0x88), (0x03, 0x01)], ⟨⟨0, 0⟩, ⟨62, 5⟩, ⟨64, 0⟩⟩) := by decide
/-- X-2, row 0x86. -/
theorem test_noteOff_releases : after (msgStep (mid 0x90 (60, 0) (0, 0) (0, 0) 0 []) 0x86 60 0)
    (fun t => (t.writes, t.pool.v0)) = some ([(0x07, 0x38), (0x08, 0x00)], ⟨0, 0⟩) := by decide
/-- P-9, first row: a release of note 0 silences the first free slot. -/
theorem test_noteOff_note_zero : after (msgStep (mid 0x80 (60, 0) (0, 0) (0, 0) 0 []) 0x80 0 0)
    (fun t => (t.writes, t.pool.v0)) = some ([(0x07, 0x38), (0x09, 0x00)], ⟨60, 0⟩) := by decide
/-- X-2, row 0x85: no release. -/
theorem test_rawWrite_is_no_noteOff : after (msgStep (mid 0x90 (60, 0) (0, 0) (0, 0) 0 []) 0x85 60 0)
    (fun t => (t.writes, t.pool.v0)) = some ([(0x07, 0x38), (0x3C, 0x00)], ⟨60, 0⟩) := by decide
/-- X-5, second row, as a full message: the raw mixer value stands after the preamble. -/
theorem test_rawWrite_to_mixer : after (msgStep (fresh []) 0x85 0x07 0x3F) (fun t => (t.writes, t.device.read 7)) =
    some ([(0x07, 0x38), (0x07, 0x3F)], some 0x3F) := by decide
/-- X-1, the six commands. -/
theorem test_ignoredA0 : after (msgStep (fresh []) 0xAF 1 2) (fun t => t.writes) = some [(0x07, 0x38)] := by decide
theorem test_ignoredB0 : after (msgStep (fresh []) 0xB3 1 2) (fun t => t.writes) = some [(0x07, 0x38)] := by decide
theorem test_ignoredC0 : after (msgStep (fresh []) 0xC0 1 2) (fun t => t.writes) = some [(0x07, 0x38)] := by decide
theorem test_ignoredD0 : after (msgStep (fresh []) 0xD9 1 2) (fun t => t.writes) = some [(0x07, 0x38)] := by decide
theorem test_ignoredE0 : after (msgStep (fresh []) 0xE0 1 2) (fun t => t.writes) = some [(0x07, 0x38)] := by decide
theorem test_ignoredF0 : after (msgStep (fresh []) 0xFF 1 2) (fun t => (t.writes, t.framer.st)) =
    some ([(0x07, 0x38)], 0xFF) := by decide
/-- S-5, the second message. -/
theorem test_rs_under_noteOn : after (step ((mid 0x90 (60, 0) (0, 0) (0, 0) 0 []).withFetchWord 16 0x3D64))
    (fun t => (t.writes, t.pool.v1)) =
      some ([(0x07, 0x38), (0x09, 0x0F), (0x02, 0xA0), (0x03, 0x01)], ⟨61, 0⟩) := by decide
/-- F-7, second row. -/
theorem test_rs_under_rawWrite : after (step ((mid 0x85 (0, 0) (0, 0) (0, 0) 0 []).withFetchWord 16 0x2122)) (fun t => t.writes) =
    some [(0x07, 0x38), (0x21, 0x22)] := by decide
/-- F-3: a status byte 0xF8 in the middle of a message. -/
theorem test_status_discards : after (step { mid 0x90 (0, 0) (0, 0) (0, 0) 0 [.byte 0xF8] with
    framer := ⟨true, 0x90, 1, 60, 0⟩ }) (fun t => (t.framer, t.writes)) = some (⟨true, 0xF8, 0, 0, 0⟩, []) := by decide
/-- S-6: data before any status byte. -/
theorem test_dataIdle_dropped : after (step (fresh [.byte 45]))
    (fun t => (t.framer, t.pool, t.ticks, t.writes)) = some (Framer.reset, Pool.reset, 0, []) := by decide
/-- R97's example. -/
theorem test_data1_stored : after (step (mid 0x90 (0, 0) (0, 0) (0, 0) 0 [.byte 60])) (fun t => (t.framer, t.writes)) =
    some (⟨true, 0x90, 1, 60, 0⟩, []) := by decide
/-- R98's example. -/
theorem test_data2_dispatches : after (step { fresh [.byte 127] with framer := ⟨true, 0x90, 1, 60, 0⟩ })
    (fun t => (t.framer, t.writes, t.pool.v0)) =
      some (⟨true, 0x90, 0, 0, 0⟩, [(0x07, 0x38), (0x08, 0x0F), (0x00, 0xB8), (0x01, 0x01)], ⟨60, 0⟩) := by decide
/-- W-3: two slots of three evicted in one pass. -/
theorem test_tick_evicts_in_order : after (step (mid 0x90 (60, 100) (62, 900) (64, 1100) 4999 [.idle]))
    (fun t => (t.writes, t.pool, t.ticks)) =
      some ([(0x08, 0x00), (0x09, 0x00)], ⟨⟨0, 0⟩, ⟨0, 0⟩, ⟨64, 1100⟩⟩, 5000) := by decide
/-- W-6, third block, last row: the pass at the wrap sees age 4000. -/
theorem test_tick_wraps_and_evicts : after (step (mid 0x90 (60, 61536) (62, 63000) (0, 0) 65535 []))
    (fun t => (t.writes, t.pool.v0, t.pool.v1, t.ticks)) = some ([(0x08, 0x00)], ⟨0, 0⟩, ⟨62, 63000⟩, 0) := by decide
/-- R191, R192: RESET frees the slots and writes nothing. -/
theorem test_reset_event : after (step (mid 0x90 (60, 5) (0, 0) (0, 0) 7 [.reset]))
    (fun t => (t.writes, t.pool, t.ticks, t.framer)) = some ([], Pool.reset, 0, Framer.reset) := by decide
/-- A placed word runs as the first instruction after reset, under the opaque configuration. -/
theorem test_word_runs_from_reset : after (step (State.reset.withFetchWord 24 0x903C64))
    (fun t => (t.pool.v0.note, t.framer.st, t.writes.length)) = some (60, 0x90, 4) := by decide

/-- A continuation placed while a message is pending: the next step completes that message, one byte a step (R87 (c)). -/
theorem test_rs_word_while_pending :
    after (step ({ fresh [] with framer := ⟨true, 0x90, 1, 60, 0⟩ }.withFetchWord 16 0x3D64))
      (fun t => (t.pool.v0.note, t.input)) = some (60, [.byte 0x64]) := by decide

/-! ### Witnesses: for every statement with hypotheses, a state and operands that meet them all -/

/-- Every step answers a next state here: the shape of the hypothesis `step s = .next t`. -/
theorem witness_step_next : ∃ t, msgStep (mid 0x90 (60, 0) (0, 0) (0, 0) 0 []) 0x80 60 0 = .next t := ⟨_, rfl⟩

/-- StepRunsTheDecodedInstruction, first clause. -/
theorem witness_stepRuns_event : ∃ t, (fresh [.byte 0x90]).input = Input.byte 0x90 :: [] ∧
    exec (decodeEvent (fresh [.byte 0x90]).phase (.byte 0x90))
      { fresh [.byte 0x90] with input := [], writes := [] } = .next t := ⟨_, rfl, rfl⟩
/-- StepRunsTheDecodedInstruction, second clause. -/
theorem witness_stepRuns_empty : ∃ t, (fresh []).input = [] ∧ exec .tick { fresh [] with writes := [] } = .next t :=
  ⟨_, rfl, rfl⟩
/-- StepRunsTheDecodedInstruction, third clause. -/
theorem witness_stepRuns_word : ∃ t, decodeWord (fresh []).phase 24 0x903C64 = .ok (.noteOn 0 60 100) ∧
    ((fresh []).phase = .awaiting1 → ∀ a b, Instr.noteOn 0 60 100 ≠ .rs a b) ∧
    exec (.noteOn 0 60 100) { fresh [] with writes := [] } = .next t := ⟨_, rfl, by decide, rfl⟩
/-- StepRunsTheDecodedInstruction, third clause, a running-status word with a status byte latched. -/
theorem witness_stepRuns_rs : ∃ t, decodeWord (mid 0x90 (0, 0) (0, 0) (0, 0) 0 []).phase 16 0x3D64 = .ok (.rs 61 100) ∧
    (mid 0x90 (0, 0) (0, 0) (0, 0) 0 []).phase ≠ .awaiting1 ∧
    exec (.rs 61 100) { mid 0x90 (0, 0) (0, 0) (0, 0) 0 [] with writes := [] } = .next t := ⟨_, rfl, by decide, rfl⟩
/-- StepConsumesAtMostOneByte, both kinds of event. -/
theorem witness_one_byte : (fresh [.byte 0x90, .byte 60]).nextInput = .byte 0x90 ∧ (fresh [.idle]).nextInput = .idle ∧
    (fresh []).nextInput = .idle := by decide
/-- EveryInstructionOnlyAppendsWrites. -/
theorem witness_exec_next : ∃ t, exec (.noteOn 0 60 100) (fresh []) = .next t := ⟨_, rfl⟩
/-- DecodeOfEncodeIsIdentity, a data row in its phase. -/
theorem witness_encode_data2 : (Instr.data2 127).wellFormed = true ∧ phaseSelects .awaiting1 (.data2 127) = true ∧
    Instr.data2 127 ≠ .reset := by decide
/-- RawWriteEmitsPreambleThenTheByte, second clause, and RawWriteIgnoresPoolTicksAndTable. -/
theorem witness_rawWrite_next : ∃ t, exec (.rawWrite 0x7F 0x7F) (fresh []) = .next t := ⟨_, rfl⟩
/-- AllocateEffect, `v = 0` with a holder; NoteOnVelocityZeroActsAsNoteOff; NoteOffReleasesTheFirstHolder. -/
theorem witness_firstHolding : FirstHolding (mid 0x90 (60, 0) (62, 0) (0, 0) 0 []).pool 62 1 ∧ (4 : BitVec 4) ≠ 5#4 := by
  decide
/-- ReleaseEffect with no holder. -/
theorem witness_noHolder : ∀ i, ((mid 0x90 (60, 0) (62, 0) (0, 0) 0 []).pool.get i).note ≠ 64#7 := by decide
/-- AllocateEffect, `v ≠ 0`: the holder is selected although a lower slot is free. -/
theorem witness_selected_holder : Selected (mid 0x90 (0, 0) (62, 0) (64, 0) 0 []).pool 62 1 ∧ (1 : Data) ≠ 0#7 := by
  decide
/-- AllocateEffect, `v ≠ 0`: the first free slot is selected when no slot holds the note. -/
theorem witness_selected_free : Selected (mid 0x90 (60, 0) (0, 0) (0, 0) 0 []).pool 62 1 ∧ (127 : Data) ≠ 0#7 := by
  decide
/-- AllocateEffect, `v ≠ 0`: no slot is selected. -/
theorem witness_selected_none : ∀ i, ¬ Selected (mid 0x90 (60, 0) (62, 0) (64, 0) 0 []).pool 65 i := by decide
/-- NoteOnWithFullPoolIsDropped. -/
theorem witness_pool_full : (100 : Data) ≠ 0#7 ∧ ∀ i, ((mid 0x90 (60, 0) (62, 0) (64, 0) 0 []).pool.get i).note ≠ 0#7 ∧
    ((mid 0x90 (60, 0) (62, 0) (64, 0) 0 []).pool.get i).note ≠ 65#7 := by decide
/-- NoteZeroActsOnTheFirstFreeSlot, a free slot. -/
theorem witness_noteZero_free : (1 : Data) ≠ 0#7 ∧ FirstHolding (mid 0x90 (60, 0) (0, 0) (0, 0) 0 []).pool 0 1 := by
  decide
/-- NoteZeroActsOnTheFirstFreeSlot, no free slot. -/
theorem witness_noteZero_full : ∀ i, ((mid 0x90 (60, 0) (62, 0) (64, 0) 0 []).pool.get i).note ≠ 0#7 := by decide
/-- ChannelNibbleOnlyEntersTheStatus, both clauses; ReleaseAfterAllocateLeavesNoHolder. -/
theorem witness_note_then_release : ∃ t u, (60 : Data) ≠ 0#7 ∧ (100 : Data) ≠ 0#7 ∧ UniqueHolder (fresh []).pool ∧
    exec (.noteOn 0 60 100) (fresh []) = .next t ∧ exec (.noteOn 15 60 0) t = .next u ∧
    exec (.noteOn 15 60 100) (fresh []) = .next { t with framer := latched 0x9F } :=
  ⟨_, _, by decide, by decide, by decide, rfl, rfl, rfl⟩
/-- StatusByteIsLatchedInAnyPhase, second clause, at the least and the greatest status byte. -/
theorem witness_status_bytes : 0x80 ≤ (0x80 : Byte).toNat ∧ 0x80 ≤ (0xFF : Byte).toNat ∧
    (fresh [.byte 0x80]).input = [.byte 0x80] := by decide
/-- DataByteInIdleIsDropped, second clause, at the least and the greatest data byte. -/
theorem witness_data_idle : (0x00 : Byte).toNat < 0x80 ∧ (0x7F : Byte).toNat < 0x80 ∧
    (fresh [.byte 0x7F]).input = [.byte 0x7F] ∧ (fresh [.byte 0x7F]).framer.stValid = false := by decide
/-- DataByteInIdleIsDropped, third clause. -/
theorem witness_valid_stays : ∃ t, (mid 0x90 (0, 0) (0, 0) (0, 0) 0 [.idle]).framer.stValid = true ∧
    (mid 0x90 (0, 0) (0, 0) (0, 0) 0 [.idle]).nextInput ≠ .reset ∧
    step (mid 0x90 (0, 0) (0, 0) (0, 0) 0 [.idle]) = .next t := ⟨_, by decide, by decide, rfl⟩
/-- FirstDataByteIsStored, second clause. -/
theorem witness_data1 : (mid 0x90 (0, 0) (0, 0) (0, 0) 0 [.byte 0x00]).input = [.byte 0x00] ∧ (0x00 : Byte).toNat < 0x80 ∧
    (mid 0x90 (0, 0) (0, 0) (0, 0) 0 [.byte 0x00]).framer.stValid = true ∧
    (mid 0x90 (0, 0) (0, 0) (0, 0) 0 [.byte 0x00]).framer.cnt = 0#1 := by decide
/-- SecondDataByteDispatchesTheMessage, each clause at a boundary status byte. -/
theorem witness_data2_statuses : (0x90 : Byte).toNat / 16 = 9 ∧ (0x9F : Byte).toNat / 16 = 9 ∧
    (0x8F : Byte).toNat / 16 = 8 ∧ (0x8F : Byte) ≠ 0x85#8 ∧ (0xA0 : Byte).toNat / 16 ≠ 8 ∧
    (0xA0 : Byte).toNat / 16 ≠ 9 ∧ (latched 0x85).st = 0x85#8 := by decide
/-- ByteStepIsTheFourArmsOfFrame; PhaseFollowsTheTransitionTable, first clause. -/
theorem witness_byte_input : (fresh [.byte 0x90, .byte 60]).input = Input.byte 0x90 :: [.byte 60] := by decide
/-- PhaseFollowsTheTransitionTable, second and third clause. -/
theorem witness_phase_idle_event : ∃ t, (mid 0x90 (0, 0) (0, 0) (0, 0) 0 []).nextInput = .idle ∧
    (mid 0x90 (0, 0) (0, 0) (0, 0) 0 []).phase ≠ .idle ∧ step (mid 0x90 (0, 0) (0, 0) (0, 0) 0 []) = .next t :=
  ⟨_, by decide, by decide, rfl⟩
/-- RunningStatusBytesByPhase, the three phases. -/
theorem witness_phases : (fresh []).phase = .idle ∧ (mid 0x90 (0, 0) (0, 0) (0, 0) 0 []).phase = .awaiting0 ∧
    { fresh [] with framer := ⟨true, 0x90, 1, 60, 0⟩ }.phase = .awaiting1 := by decide
/-- RunningStatusRepeatsTheLatchedOperation, under 0x85. -/
theorem witness_running_status : (mid 0x85 (0, 0) (0, 0) (0, 0) 0 []).framer.stValid = true ∧
    (mid 0x85 (0, 0) (0, 0) (0, 0) 0 []).framer.cnt = 0#1 ∧
    (mid 0x85 (0, 0) (0, 0) (0, 0) 0 []).framer.st = 1#1 ++ 0#3 ++ 5#4 := by decide
/-- PartialMessageIsDiscarded. -/
theorem witness_partial_message : (fresh [.byte 0x90, .byte 60, .byte 0x80]).input =
      Input.byte 0x90 :: .byte 60 :: .byte 0x80 :: [] ∧
    (0x90 : Byte).getLsbD 7 = true ∧ (60 : Byte).getLsbD 7 = false ∧ (0x80 : Byte).getLsbD 7 = true := by decide
/-- TickCountsAndSweepsAtTheGate, a tick that is gated, one that is not, and the inclusive bound of the age test. -/
theorem witness_gate : after (exec .tick (mid 0x90 (60, 0) (62, 1) (0, 0) 3999 []))
      (fun t => (t.ticks % 1000 == 0, evicts (mid 0x90 (60, 0) (62, 1) (0, 0) 3999 []) t.ticks 0,
        evicts (mid 0x90 (60, 0) (62, 1) (0, 0) 3999 []) t.ticks 1)) = some (true, true, false) ∧
    after (exec .tick (mid 0x90 (60, 0) (0, 0) (0, 0) 4000 [])) (fun t => t.ticks % 1000 == 0) = some false := by decide
/-- FreeSlotsAreNeverSwept. -/
theorem witness_free_slot : ((mid 0x90 (0, 7) (0, 0) (0, 0) 5999 []).pool.get 0).note = 0#7 := by decide
/-- TickSubtractionIsModular, at both ends of the range. -/
theorem witness_tick_values : 0 < 2 ^ 16 ∧ 65535 < 2 ^ 16 ∧ tickSub 16 0 65535 = 1 ∧ tickSub 16 65535 65535 = 0 := by
  decide
/-- ThousandIdleStepsHoldAPass, with the events queued and with nothing queued. -/
theorem witness_thousand_idle :
    coming (fresh (List.replicate 1000 .idle ++ [.byte 0x90])) 1000 = List.replicate 1000 .idle ∧
    coming (fresh []) 1000 = List.replicate 1000 .idle := by
  constructor <;> simp [coming, fresh, -List.reduceReplicate]
/-- HungNoteIsEvictedWithin4999IdleSteps, with a byte among the idle steps. -/
theorem witness_hung_note : Input.reset ∉ coming (mid 0x90 (60, 63000) (0, 0) (0, 0) 63000 [.idle, .byte 61]) 5000 ∧
    4999 ≤ (coming (mid 0x90 (60, 63000) (0, 0) (0, 0) 63000 [.idle, .byte 61]) 5000).count .idle ∧
    ((mid 0x90 (60, 63000) (0, 0) (0, 0) 63000 []).pool.get 0).note ≠ 0#7 ∧
    ((mid 0x90 (60, 63000) (0, 0) (0, 0) 63000 []).pool.get 0).t0 =
      (mid 0x90 (60, 63000) (0, 0) (0, 0) 63000 []).ticks := by
  refine ⟨?_, ?_, by decide, by decide⟩ <;> simp [coming, mid, fresh, -List.reduceReplicate]
/-- ResetEventClearsEveryRegister, second clause; NoStepChangesTheConfiguration. -/
theorem witness_reset_input : ∃ t, (mid 0x90 (60, 0) (0, 0) (0, 0) 5 [.reset]).input = [.reset] ∧
    exec .reset (mid 0x90 (60, 0) (0, 0) (0, 0) 5 [.reset]) = .next t := ⟨_, rfl, rfl⟩
/-- The invariants hold of a state that is not the reset state, and it takes a step. -/
theorem witness_invariants : ∃ t, FramerInv (mid 0x90 (60, 3) (62, 5) (0, 7) 9 [.byte 0x3E]).framer ∧
    UniqueHolder (mid 0x90 (60, 3) (62, 5) (0, 7) 9 [.byte 0x3E]).pool ∧
    TicksInRange (mid 0x90 (60, 3) (62, 5) (0, 7) 9 [.byte 0x3E]) ∧
    OutputInv (mid 0x90 (60, 3) (62, 5) (0, 7) 9 [.byte 0x3E]) ∧
    msgStep (mid 0x90 (60, 3) (62, 5) (0, 7) 9 []) 0x90 62 1 = .next t :=
  ⟨_, by decide, by decide, by decide, by decide, rfl⟩
/-- BytesKeepTicksAndIdleKeepsTheFramer, both clauses; WriteListsHaveTheirShape; EveryWriteIsInTheWriteTable. -/
theorem witness_byte_and_idle : (fresh [.byte 0x90]).nextInput ≠ .idle ∧ (fresh [.byte 0x90]).nextInput ≠ .reset ∧
    (fresh [.idle]).nextInput = .idle := by decide
/-- EveryWriteIsInTheWriteTable: a step with writes. -/
theorem witness_step_with_writes : after (msgStep (fresh []) 0x85 8 0) (fun t => decide ((0x08, 0x00) ∈ t.writes)) =
    some true := by decide
/-- OccupiedSlotKeepsItsNoteOrIsFreed. -/
theorem witness_occupied : ∃ t, ((mid 0x90 (60, 0) (0, 0) (0, 0) 0 [.byte 60]).pool.get 0).note ≠ 0#7 ∧
    step (mid 0x90 (60, 0) (0, 0) (0, 0) 0 [.byte 60]) = .next t := ⟨_, by decide, rfl⟩
/-- MessageUnitEqualsItsThreeByteSteps and RunningStatusUnitEqualsItsTwoByteSteps. -/
theorem witness_units : (Instr.noteOff 4 60 0).wellFormed = true ∧ encodeBits (.noteOff 4 60 0) = 24 ∧
    (fresh [.byte 0x84, .byte 60, .byte 0, .idle]).input = encode (.noteOff 4 60 0) ++ [.idle] ∧
    (fresh [.byte 61, .byte 100]).input = encode (.rs 61 100) ++ [] := by
  decide
/-- UnobservableStateDoesNotReachTheOutput: two different states that an observer cannot tell apart. -/
theorem witness_sameToAnObserver : SameToAnObserver (fresh [.byte 61])
    { fresh [.byte 61] with framer := ⟨false, 0x90, 0, 0, 0⟩, pool := ⟨⟨0, 9⟩, ⟨0, 0⟩, ⟨0, 0⟩⟩, device := [(7, 1)] } :=
  ⟨rfl, rfl, rfl, ⟨rfl, rfl, rfl, rfl, by decide⟩, fun i => by
    fin_cases i <;> exact ⟨rfl, by decide⟩⟩

end Sys2Proof.Tests
end

/-! A step that takes a byte is `Frame(b)` between the beginning and the end of the step
(40_step_and_framer.md R90, R93), and the two statements that tell what it does. -/

namespace Sys2Proof.Machine

/-! ### Bytes told by their value -/

/-- The status bytes are the upper half of the byte values (30_encoding.md R70). -/
theorem isStatus_iff_le (b : Byte) : isStatus b = true ↔ 0x80 ≤ b.toNat := by
  have hmsb : isStatus b = b.msb := (BitVec.msb_eq_getLsbD_last b).symm
  simp [hmsb, BitVec.msb_eq_decide]

/-- The value of a data byte is the byte reduced to 7 bits (30_encoding.md R71, R76). -/
theorem dataVal_eq_ofNat (b : Byte) : dataVal b = BitVec.ofNat 7 b.toNat := by
  apply BitVec.eq_of_toNat_eq
  simp [dataVal, BitVec.extractLsb'_toNat]

/-! ### The beginning and the end of a step -/

theorem State.beginStep_of_input {s : State} {u : Input} {rest : List Input} (h : s.input = u :: rest) :
    s.beginStep = { s with input := rest, writes := [] } := by
  simp [State.beginStep, h]

/-- A step without writes adds nothing to the trace. -/
theorem State.endStep_of_writes_nil {s : State} (h : s.writes = []) : s.endStep = s := by
  have htrace : s.trace ++ s.writes = s.trace := by rw [h, List.append_nil]
  rw [State.endStep, htrace]

/-- The end of a step changes the trace alone. -/
theorem State.endStep_with_trace (s : State) : { s.endStep with trace := s.trace } = s := rfl

/-! ### The framer -/

theorem State.frame_of_isStatus (s : State) {b : Byte} (h : isStatus b = true) : s.frame b = s.latchStatus b := by
  simp [State.frame, h]

/-- The second data byte reaches the output only through the dispatch, which leaves the trace of earlier steps alone. -/
@[simp] theorem State.takeSecondData_trace (s : State) (d : Data) : (s.takeSecondData d).trace = s.trace := by
  obtain ⟨-, -, -, -, htrace⟩ :=
    dispatch_frame (s.withFramer { s.framer with vel := d }) s.framer.st s.framer.note d
  exact htrace

/-- `Frame(b)` leaves the trace of earlier steps alone. -/
@[simp] theorem State.frame_trace (s : State) (b : Byte) : (s.frame b).trace = s.trace := by
  rcases frame_cases s b with ⟨-, h⟩ | ⟨-, -, h⟩ | ⟨-, -, -, h⟩ | ⟨-, -, -, h⟩ <;> simp [h]

/-- A step that takes a byte runs `Frame(b)` on the state with the byte consumed and `W` empty, then joins `W` to the
trace, whatever the phase (40_step_and_framer.md R90, R93). -/
theorem step_byte {s : State} {b : Byte} {rest : List Input} (h : s.input = .byte b :: rest) :
    step s = .next (State.frame { s with input := rest, writes := [] } b).endStep := by
  have hfetch : s.fetch = decodeByte s.beginStep.phase b := by
    simp only [State.fetch, State.nextInput, h]
    rfl
  have hexec : exec s.fetch s.beginStep = .next (s.beginStep.frame b) := by
    rw [hfetch, exec_decodeByte]
  rw [step_of_exec hexec, State.beginStep_of_input h]

/-! ### The statements -/

/-- Settles O22: the step is `Frame(b)` (`step_byte`), and the cases of `Frame(b)` are the arms, tested in their order. -/
theorem byteStepIsTheFourArmsOfFrame : Obligations.ByteStepIsTheFourArmsOfFrame := by
  intro s b rest h v s0 d
  have hbit : b.getLsbD 7 = isStatus b := rfl
  have hv : dataVal b = v := dataVal_eq_ofNat b
  have htrace : (s0.frame b).trace = s.trace := s0.frame_trace b
  refine ⟨(s0.frame b).endStep, step_byte h, congrArg (· ++ _) htrace, ?_⟩
  rw [← htrace, State.endStep_with_trace, hbit]
  rcases frame_cases s0 b with ⟨hst, hf⟩ | ⟨hst, hvalid, hf⟩ | ⟨hst, hvalid, hcnt, hf⟩ | ⟨hst, hvalid, hcnt, hf⟩
  · rw [hf, if_pos hst]
    rfl
  · rw [hf, if_neg (ne_true_of_eq_false hst), if_pos hvalid]
  · rw [hf, if_neg (ne_true_of_eq_false hst), if_neg (ne_false_of_eq_true hvalid), if_pos hcnt, hv]
    rfl
  · rw [hf, if_neg (ne_true_of_eq_false hst), if_neg (ne_false_of_eq_true hvalid), if_neg hcnt, hv]
    rfl

/-- Settles O18: the row of a status byte latches it, and a step that takes one is that row, which writes nothing. -/
theorem statusByteIsLatchedInAnyPhase : Obligations.StatusByteIsLatchedInAnyPhase := by
  refine ⟨fun _ _ _ => rfl, fun s b rest h hb => ?_⟩
  rw [step_byte h, State.frame_of_isStatus _ ((isStatus_iff_le b).2 hb), State.endStep_of_writes_nil rfl]
  rfl

end Sys2Proof.Machine

/-! The dispatcher's operations as they follow the mixer preamble (41_dispatcher.md R112): what NOTE_ON, NOTE_OFF and
RAW_WRITE write, what they do to the pool, and that the framer takes no part in it. -/

namespace Sys2Proof.Machine

open Sys2Proof.Safety

/-! ### Status bytes and raw data bytes -/

/-- The status bytes of NOTE_ON (30_encoding.md R78). -/
theorem statusByte_noteOn (c : BitVec 4) : statusByte 0b001#3 c = 0x90#8 ||| c.setWidth 8 := by
  revert c
  decide

/-- The status bytes of NOTE_OFF (30_encoding.md R78). -/
theorem statusByte_noteOff (c : BitVec 4) : statusByte 0b000#3 c = 0x80#8 ||| c.setWidth 8 := by
  revert c
  decide

/-- A widened data value stays in the lower half of the byte values (20_memory.md R64). -/
theorem toNat_setWidth_data_le (d : Data) : (d.setWidth 8).toNat ≤ 0x7F := by
  have hlt : d.toNat < 2 ^ 7 := d.isLt
  rw [BitVec.toNat_setWidth_of_le (by decide)]
  omega

/-! ### The meanings of the three messages, and of a running-status continuation -/

theorem exec_rawWrite (a d : Data) (s : State) :
    exec (.rawWrite a d) s = .next ((s.latchStatus stRawWrite).preamble.emit (zext8 a) (zext8 d)) := rfl

theorem exec_noteOn (c : BitVec 4) (n v : Data) (s : State) :
    exec (.noteOn c n v) s = .next ((s.latchStatus (statusByte 0b001#3 c)).preamble.allocate n v) := rfl

theorem exec_noteOff (c : BitVec 4) (n v : Data) (s : State) :
    exec (.noteOff c n v) s = .next ((s.latchStatus (statusByte 0b000#3 c)).preamble.release n) := rfl

theorem exec_rs (a b : Data) (s : State) :
    exec (.rs a b) s = .next ((s.frame (dataByte a)).frame (dataByte b)) := rfl

theorem dispatch_stRawWrite (s : State) (n v : Data) :
    s.dispatch stRawWrite n v = s.preamble.emit (zext8 n) (zext8 v) := by
  simp [State.dispatch]

/-- `Allocate(n, 0)` is `Release(n)` (41_dispatcher.md R114). -/
@[simp] theorem allocate_zero (s : State) (n : Data) : s.allocate n 0#7 = s.release n := if_pos rfl

/-- Latching a status byte and writing the preamble emits the preamble alone (41_dispatcher.md R112). -/
theorem latchStatus_preamble_emits (s : State) (st : Byte) : Emits s (s.latchStatus st).preamble [mix s.cfg] :=
  emits_congr (preamble_emits (s.latchStatus st)) ⟨rfl, rfl, rfl, rfl, rfl⟩ ⟨rfl, rfl, rfl, rfl, rfl⟩

/-! ### The effect of a release and of an allocation after the preamble -/

theorem slotBecomes_of_pool_eq_set {s t : State} {i : SlotIx} {x : Slot} (h : t.pool = s.pool.set i x) :
    SlotBecomes s t i x := fun j => by rw [h, Pool.get_set]

section AfterThePreamble

-- `s` is the state before the message, `p` the state after its preamble.
variable {s p : State}

/-- `Release(n)` after the preamble has the effect of a dispatched release (41_dispatcher.md R115). -/
theorem releaseEffect_release (hmix : Emits s p [mix s.cfg]) (hpool : p.pool = s.pool) (n : Data) :
    ReleaseEffect s (p.release n) n := by
  have hcfg : p.cfg = s.cfg := hmix.1
  rcases release_cases p n with ⟨i, hi, h⟩ | ⟨hnone, h⟩ <;> rw [h]
  · obtain ⟨hoff, hset, -, -⟩ := releaseSlot_spec p i
    rw [hpool] at hi hset
    rw [hcfg] at hoff
    refine ⟨fun j hj => ?_, fun hnone => absurd hi.1 (hnone i)⟩
    rw [firstHolding_unique hj hi]
    exact ⟨emits_trans hmix hoff, slotBecomes_of_pool_eq_set hset⟩
  · rw [hpool] at hnone
    exact ⟨fun j ⟨hnote, _⟩ => absurd hnote (hnone j), fun _ => ⟨hmix, hpool⟩⟩

/-- `Allocate(n, v)` after the preamble has the effect of a dispatched note-on (41_dispatcher.md R113). -/
theorem allocateEffect_allocate (hmix : Emits s p [mix s.cfg]) (hpool : p.pool = s.pool) (hticks : p.ticks = s.ticks)
    (n v : Data) : AllocateEffect s (p.allocate n v) n v := by
  have hcfg : p.cfg = s.cfg := hmix.1
  rcases allocate_cases p n v with ⟨hv, h⟩ | ⟨hv, i, hi, h⟩ | ⟨hv, hnone, h⟩ <;> rw [h]
  · exact ⟨fun _ => releaseEffect_release hmix hpool n, fun hv' => absurd hv hv'⟩
  · obtain ⟨hon, hset, -, -⟩ := programSlot_spec p i n
    rw [hpool] at hi hset
    rw [hcfg] at hon
    rw [hticks] at hset
    refine ⟨fun hv' => absurd hv' hv, fun _ => ⟨fun j hj => ?_, fun hnone => absurd hi (hnone i)⟩⟩
    rw [selected_unique hj hi]
    exact ⟨emits_trans hmix hon, slotBecomes_of_pool_eq_set hset⟩
  · rw [hpool] at hnone
    exact ⟨fun hv' => absurd hv' hv, fun _ => ⟨fun j hj => absurd hj (hnone j), fun _ => ⟨hmix, hpool⟩⟩⟩

end AfterThePreamble

/-! ### The dispatcher does not look at the framer (41_dispatcher.md R121) -/

theorem preamble_withFramer (s : State) (f : Framer) : (s.withFramer f).preamble = s.preamble.withFramer f := rfl

theorem release_withFramer (s : State) (f : Framer) (n : Data) :
    (s.withFramer f).release n = (s.release n).withFramer f := by
  unfold State.release
  rw [State.withFramer_pool]
  cases s.pool.holder n with
  | some i => rfl
  | none => rfl

theorem allocate_withFramer (s : State) (f : Framer) (n v : Data) :
    (s.withFramer f).allocate n v = (s.allocate n v).withFramer f := by
  unfold State.allocate
  split
  · exact release_withFramer s f n
  · rw [State.withFramer_pool]
    cases s.pool.select n with
    | some i => rfl
    | none => rfl

theorem dispatch_withFramer (s : State) (f : Framer) (st : Byte) (n v : Data) :
    (s.withFramer f).dispatch st n v = (s.dispatch st n v).withFramer f := by
  simp only [State.dispatch, preamble_withFramer, allocate_withFramer, release_withFramer]
  split_ifs <;> rfl

/-- Two data bytes in phase `AwaitingData(0)` are a dispatch under the latched status, which stays latched
(40_step_and_framer.md R97, R98, R100). -/
theorem frame_frame_dataByte {s : State} (hvalid : s.framer.stValid = true) (hcnt : s.framer.cnt = 0#1) (a b : Data) :
    (s.frame (dataByte a)).frame (dataByte b) = (s.latchStatus s.framer.st).dispatch s.framer.st a b := by
  have hval (d : Data) : dataVal (dataByte d) = d := by
    revert d
    decide
  have hfirst : s.frame (dataByte a) = s.takeFirstData a := by
    simp [State.frame, Laws.isStatus_dataByte, hvalid, hcnt, hval]
  have hsecond : (s.takeFirstData a).frame (dataByte b) = (s.takeFirstData a).takeSecondData b := by
    simp [State.frame, Laws.isStatus_dataByte, hvalid, hval]
  rw [hfirst, hsecond]
  simp only [State.takeSecondData, State.takeFirstData, State.latchStatus, State.withFramer_framer,
    dispatch_withFramer, hvalid]
  rfl

/-! ### The statements -/

/-- Settles O10: after the preamble the message is `Allocate(n, v)`, whose cases are those of the table. -/
theorem noteOnAllocatesByCase : Obligations.NoteOnAllocatesByCase := by
  intro c n v s
  obtain ⟨hframer, hticks, -⟩ := allocate_frame (s.latchStatus (statusByte 0b001#3 c)).preamble n v
  refine ⟨_, exec_noteOn c n v s, allocateEffect_allocate (latchStatus_preamble_emits s _) rfl rfl n v, hticks, ?_⟩
  rw [hframer, ← statusByte_noteOn]
  rfl

/-- Settles O11: both messages are a release of `n` after the preamble, and a release does not look at the framer. -/
theorem noteOnVelocityZeroActsAsNoteOff : Obligations.NoteOnVelocityZeroActsAsNoteOff := by
  intro c c' n v s _
  have hon := exec_noteOn c n 0#7 s
  rw [allocate_zero] at hon
  refine ⟨_, _, hon, exec_noteOff c' n v s, ?_, releaseEffect_release (latchStatus_preamble_emits s _) rfl n⟩
  simp only [State.latchStatus, preamble_withFramer, release_withFramer]
  rfl

/-- Settles O14: after the preamble the message is `Release(n)`, whatever the velocity. -/
theorem noteOffReleasesTheFirstHolder : Obligations.NoteOffReleasesTheFirstHolder := by
  intro c n v s _
  obtain ⟨hframer, hticks, -⟩ := release_frame (s.latchStatus (statusByte 0b000#3 c)).preamble n
  refine ⟨_, exec_noteOff c n v s, releaseEffect_release (latchStatus_preamble_emits s _) rfl n, hticks, ?_,
    fun v' => exec_noteOff c n v' s⟩
  rw [hframer, ← statusByte_noteOff]
  rfl

/-- Settles O8: the raw pair follows the preamble, and 0x85 stays latched, so two more data bytes are dispatched under
it. -/
theorem rawWriteEmitsPreambleThenTheByte : Obligations.RawWriteEmitsPreambleThenTheByte := by
  refine ⟨fun a d s => ?_, fun a d a2 d2 s t h => ?_⟩
  · exact ⟨_, exec_rawWrite a d s, emits_trans (latchStatus_preamble_emits s _) (emit_emits _ (zext8 a) (zext8 d)),
      toNat_setWidth_data_le a, toNat_setWidth_data_le d, rfl, rfl, rfl⟩
  · obtain rfl := Host.Outcome.next.inj (h.symm.trans (exec_rawWrite a d s))
    rw [exec_rs, frame_frame_dataByte rfl rfl, exec_rawWrite, ← dispatch_stRawWrite]
    rfl

/-- Settles O9: the message is two emissions, and the preamble's address and value are all they read of the state's
configuration. -/
theorem rawWriteIgnoresPoolTicksAndTable : Obligations.RawWriteIgnoresPoolTicksAndTable := by
  intro a d s t p k tab h
  obtain rfl := Host.Outcome.next.inj (h.symm.trans (exec_rawWrite a d s))
  exact ⟨rfl, exec_rawWrite a d _⟩

end Sys2Proof.Machine

/-! The voice pool by itself (42_voice_pool.md): a release acts on the first holder, and a note-on that finds the pool
full of other notes is dropped. -/

namespace Sys2Proof.Machine

open Sys2Proof.Safety

/-- A pool that is full of other notes has no slot to select for `n` (42_voice_pool.md R134, R140). -/
theorem not_selected_of_full {p : Pool} {n : Data} (hfull : ∀ i, (p.get i).note ≠ 0#7 ∧ (p.get i).note ≠ n)
    (i : SlotIx) : ¬ Selected p n i := by
  rintro (⟨hholds, -⟩ | ⟨-, hfree, -⟩)
  · exact (hfull i).2 hholds
  · exact (hfull i).1 hfree

/-- A note with `v > 0` for which no slot is selected is dropped (42_voice_pool.md R140). -/
theorem allocate_of_not_selected {s : State} {n v : Data} (hv : v ≠ 0#7) (hnone : ∀ i, ¬ Selected s.pool n i) :
    s.allocate n v = s := by
  rcases allocate_cases s n v with ⟨hzero, -⟩ | ⟨-, i, hi, -⟩ | ⟨-, -, h⟩
  · exact absurd hzero hv
  · exact absurd hi (hnone i)
  · exact h

/-- The first holder is the slot a release frees (42_voice_pool.md R141). -/
theorem release_of_firstHolding {s : State} {n : Data} {i : SlotIx} (hi : FirstHolding s.pool n i) :
    s.release n = s.releaseSlot i := by
  rcases release_cases s n with ⟨j, hj, h⟩ | ⟨hnone, -⟩
  · rw [h, firstHolding_unique hj hi]
  · exact absurd hi.1 (hnone i)

/-- A release of a note that no slot holds does nothing (42_voice_pool.md R142). -/
theorem release_of_no_holder {s : State} {n : Data} (hnone : ∀ i, (s.pool.get i).note ≠ n) : s.release n = s := by
  rcases release_cases s n with ⟨i, hi, -⟩ | ⟨-, h⟩
  · exact absurd hi.1 (hnone i)
  · exact h

theorem exec_ignoredA0 (c : BitVec 4) (x y : Data) (s : State) :
    exec (.ignoredA0 c x y) s = .next (s.latchStatus (statusByte 0b010#3 c)).preamble := rfl

/-- Settles O12: no slot is selected, so the note is dropped and the preamble, which an ignored message shares, is all
that is left. -/
theorem noteOnWithFullPoolIsDropped : Obligations.NoteOnWithFullPoolIsDropped := by
  intro c c' n v x y s hv hfull
  have hdrop : (s.latchStatus (statusByte 0b001#3 c)).preamble.allocate n v =
      (s.latchStatus (statusByte 0b001#3 c)).preamble :=
    allocate_of_not_selected hv (not_selected_of_full hfull)
  have hon := exec_noteOn c n v s
  rw [hdrop] at hon
  exact ⟨_, _, hon, latchStatus_preamble_emits s _, rfl, rfl, exec_ignoredA0 c' x y s, rfl⟩

/-- Settles O15: the release is that of the first holder's slot, or nothing. -/
theorem releaseActsOnTheFirstHolderOnly : Obligations.ReleaseActsOnTheFirstHolderOnly := by
  refine fun n s => ⟨fun i hi => ?_, release_of_no_holder⟩
  obtain ⟨hoff, hset, hframer, hticks⟩ := releaseSlot_spec s i
  rw [release_of_firstHolding hi]
  exact ⟨hoff, slotBecomes_of_pool_eq_set hset, hframer, hticks⟩

end Sys2Proof.Machine

/-! A watchdog pass and a free slot (43_watchdog.md R155): the pass leaves the slot alone, and to overwrite the slot with
another free one before the tick is to overwrite it after, so its stamp is never observed. -/

namespace Sys2Proof.Machine

theorem exec_tick (s : State) : exec .tick s = .next s.tickEvent := rfl

/-! ### Two slots of a pool are independent -/

theorem Pool.set_comm {i j : SlotIx} (h : i ≠ j) (p : Pool) (x y : Slot) :
    (p.set i x).set j y = (p.set j y).set i x := by
  refine Pool.ext_get fun k => ?_
  simp only [Pool.get_set]
  by_cases hj : k = j
  · rw [if_pos hj, if_neg (hj.trans_ne h.symm), if_pos hj]
  · rw [if_neg hj, if_neg hj]

theorem releaseSlot_setSlot {i j : SlotIx} (h : i ≠ j) (s : State) (x : Slot) :
    (s.setSlot i x).releaseSlot j = (s.releaseSlot j).setSlot i x :=
  congrArg ((s.emit (s.cfg.slot j).level silence).withPool ·) (Pool.set_comm h s.pool x Slot.cleared)

theorem expired_setSlot {i j : SlotIx} (h : j ≠ i) (s : State) (x : Slot) :
    (s.setSlot i x).expired j = s.expired j := by
  have hget : (s.setSlot i x).pool.get j = s.pool.get j := by
    rw [State.setSlot_pool, Pool.get_set, if_neg h]
  unfold State.expired State.age
  rw [hget, State.setSlot_cfg, State.setSlot_ticks]

/-! ### The sweep of one slot -/

section FreeSlot

-- `i` is a free slot of `s`, and `x` a free slot value, of any stamp.
variable {s : State} {i : SlotIx} {x : Slot}

theorem expired_of_free (h : (s.pool.get i).note = 0#7) : s.expired i = false := by
  simp [State.expired, h, Config.free]

theorem sweepSlot_of_free (h : (s.pool.get i).note = 0#7) : s.sweepSlot i = s :=
  if_neg (ne_true_of_eq_false (expired_of_free h))

/-- The sweep of any slot, the free one included, leaves a free slot alone. -/
theorem sweepSlot_get_of_free (h : (s.pool.get i).note = 0#7) (j : SlotIx) :
    (s.sweepSlot j).pool.get i = s.pool.get i := by
  by_cases hij : i = j
  · rw [← hij, sweepSlot_of_free h]
  · exact sweepSlot_other s hij

theorem sweepSlot_keeps_free (h : (s.pool.get i).note = 0#7) (j : SlotIx) :
    ((s.sweepSlot j).pool.get i).note = 0#7 := by
  rw [sweepSlot_get_of_free h, h]

theorem sweepSlot_setSlot_of_free (h : (s.pool.get i).note = 0#7) (hx : x.note = 0#7) (j : SlotIx) :
    (s.setSlot i x).sweepSlot j = (s.sweepSlot j).setSlot i x := by
  by_cases hij : i = j
  · subst hij
    have hset : ((s.setSlot i x).pool.get i).note = 0#7 := by
      rw [State.setSlot_pool, Pool.get_set, if_pos rfl, hx]
    rw [sweepSlot_of_free h, sweepSlot_of_free hset]
  · unfold State.sweepSlot
    rw [expired_setSlot (Ne.symm hij), releaseSlot_setSlot hij]
    split <;> rfl

/-! ### The pass and the tick -/

theorem watchdogPass_get_of_free (h : (s.pool.get i).note = 0#7) : s.watchdogPass.pool.get i = s.pool.get i := by
  have h0 := sweepSlot_keeps_free h 0
  have h1 := sweepSlot_keeps_free h0 1
  unfold State.watchdogPass
  rw [sweepSlot_get_of_free h1, sweepSlot_get_of_free h0, sweepSlot_get_of_free h]

theorem watchdogPass_setSlot_of_free (h : (s.pool.get i).note = 0#7) (hx : x.note = 0#7) :
    (s.setSlot i x).watchdogPass = s.watchdogPass.setSlot i x := by
  have h0 := sweepSlot_keeps_free h 0
  have h1 := sweepSlot_keeps_free h0 1
  unfold State.watchdogPass
  rw [sweepSlot_setSlot_of_free h hx, sweepSlot_setSlot_of_free h0 hx, sweepSlot_setSlot_of_free h1 hx]

theorem tickEvent_get_of_free (h : (s.pool.get i).note = 0#7) : s.tickEvent.pool.get i = s.pool.get i := by
  simp only [State.tickEvent]
  split
  · exact watchdogPass_get_of_free (s := s.countTick) h
  · rfl

/-- The gate looks at the counter alone, so the same case holds before and after the slot is overwritten. -/
theorem tickEvent_setSlot_of_free (h : (s.pool.get i).note = 0#7) (hx : x.note = 0#7) :
    (s.setSlot i x).tickEvent = s.tickEvent.setSlot i x := by
  have hcount : (s.setSlot i x).countTick = s.countTick.setSlot i x := rfl
  have hgate : (s.countTick.setSlot i x).passDue = s.countTick.passDue := rfl
  have hpass : (s.countTick.setSlot i x).watchdogPass = s.countTick.watchdogPass.setSlot i x :=
    watchdogPass_setSlot_of_free h hx
  simp only [State.tickEvent, hcount, hgate, hpass]
  split <;> rfl

end FreeSlot

/-! ### The statement -/

/-- Settles O28: the tick leaves the free slot alone, and after a tick with another stamp the state differs in that slot
only, so the write list is the same. -/
theorem freeSlotsAreNeverSwept : Obligations.FreeSlotsAreNeverSwept := by
  intro s i k hfree
  refine ⟨_, _, exec_tick s, tickEvent_get_of_free hfree, exec_tick _, ?_⟩
  rw [tickEvent_setSlot_of_free hfree rfl, State.setSlot_writes]

end Sys2Proof.Machine

/-! The configuration is an argument of the step function (00_scope.md R8, 10_state.md R40): every shared operation, every
instruction and every step carries it along, a reset included (70_reset_and_hazards.md R193). -/

namespace Sys2Proof.Machine

/-! ### The operations -/

@[simp] theorem State.release_cfg (s : State) (n : Data) : (s.release n).cfg = s.cfg := by
  obtain ⟨-, -, hcfg, -, -⟩ := release_frame s n
  exact hcfg

@[simp] theorem State.allocate_cfg (s : State) (n v : Data) : (s.allocate n v).cfg = s.cfg := by
  obtain ⟨-, -, hcfg, -, -⟩ := allocate_frame s n v
  exact hcfg

/-- Between two writes of the framer registers, the second data byte is a dispatch. -/
@[simp] theorem State.takeSecondData_cfg (s : State) (d : Data) : (s.takeSecondData d).cfg = s.cfg := by
  obtain ⟨-, -, hcfg, -, -⟩ :=
    dispatch_frame (s.withFramer { s.framer with vel := d }) s.framer.st s.framer.note d
  exact hcfg

@[simp] theorem State.frame_cfg (s : State) (b : Byte) : (s.frame b).cfg = s.cfg := by
  rcases frame_cases s b with ⟨-, h⟩ | ⟨-, -, h⟩ | ⟨-, -, -, h⟩ | ⟨-, -, -, h⟩ <;> simp [h]

@[simp] theorem State.sweepSlot_cfg (s : State) (i : SlotIx) : (s.sweepSlot i).cfg = s.cfg := by
  rcases sweepSlot_cases s i with ⟨-, h⟩ | ⟨-, h⟩ <;> rw [h]
  rfl

@[simp] theorem State.watchdogPass_cfg (s : State) : s.watchdogPass.cfg = s.cfg := by
  simp [State.watchdogPass]

@[simp] theorem State.tickEvent_cfg (s : State) : s.tickEvent.cfg = s.cfg := by
  simp only [State.tickEvent]
  split <;> simp

/-! ### Instructions and steps -/

/-- Every instruction carries the configuration along. The rows not named here latch, store or emit, or do nothing, and
their next state has the configuration by definition. -/
theorem exec_keeps_cfg {i : Instr} {s t : State} (h : exec i s = .next t) : t.cfg = s.cfg := by
  cases i with
  | noteOn c n v =>
    obtain rfl := Host.Outcome.next.inj (h.symm.trans (exec_noteOn c n v s))
    simp
  | noteOff c n v =>
    obtain rfl := Host.Outcome.next.inj (h.symm.trans (exec_noteOff c n v s))
    simp
  | rs a b =>
    obtain rfl := Host.Outcome.next.inj (h.symm.trans (exec_rs a b s))
    simp
  | data2 v =>
    cases h
    exact s.takeSecondData_cfg v
  | tick =>
    obtain rfl := Host.Outcome.next.inj (h.symm.trans (exec_tick s))
    simp
  | _ =>
    cases h
    rfl

/-- A step that answers a next state ran the fetched row between its beginning and its end
(40_step_and_framer.md R90); the converse is `step_of_exec`. -/
theorem exec_of_step {s t : State} (h : step s = .next t) :
    ∃ u, exec s.fetch s.beginStep = .next u ∧ t = u.endStep := by
  unfold step at h
  split at h
  next u hexec => exact ⟨u, hexec, (Host.Outcome.next.inj h).symm⟩
  all_goals cases h

theorem step_keeps_cfg {s t : State} (h : step s = .next t) : t.cfg = s.cfg := by
  obtain ⟨u, hexec, rfl⟩ := exec_of_step h
  calc u.endStep.cfg = u.cfg := u.endStep_cfg
    _ = s.beginStep.cfg := exec_keeps_cfg hexec
    _ = s.cfg := s.beginStep_cfg

/-! ### The statement -/

/-- Settles O34: a reset is one of the instructions, and no instruction and no step changes the configuration, of which
`FTAB` is a part. -/
theorem noStepChangesTheConfiguration : Obligations.NoStepChangesTheConfiguration := by
  refine ⟨fun s t h => ?_, fun s t h => step_keeps_cfg h⟩
  have hcfg : t.cfg = s.cfg := exec_keeps_cfg h
  exact ⟨hcfg, congrArg Cfg.ftab hcfg⟩

end Sys2Proof.Machine

/-! What a watchdog pass and a tick do (43_watchdog.md R150 to R160), told once: the writes, the pool and what stays. A
pass is a sweep along a list of slots, and no sweep of one slot changes the age of another. -/

namespace Sys2Proof.Machine

open Sys2Proof.Safety

/-! ### Tick subtraction -/

/-- Tick subtraction is the integer difference reduced modulo the counter's range (00_scope.md R14). -/
theorem tickSub_eq_ageAt (w a b : Nat) : tickSub w a b = ageAt w a b := by
  have hb : b % 2 ^ w < 2 ^ w := Nat.mod_lt _ (Nat.two_pow_pos w)
  have hmod : ((a + (2 ^ w - b % 2 ^ w) : Nat) : Int) ≡ (a : Int) - b [ZMOD (2 ^ w : Nat)] := by
    rw [Int.modEq_iff_dvd]
    refine ⟨-1 - (b / 2 ^ w : Nat), ?_⟩
    have hdiv : ((2 ^ w : Nat) : Int) * (b / 2 ^ w : Nat) + (b % 2 ^ w : Nat) = b := by
      exact_mod_cast Nat.div_add_mod b (2 ^ w)
    push_cast [Nat.cast_sub hb.le] at hdiv ⊢
    linarith
  have hcast : ((tickSub w a b : Nat) : Int) = ((a : Int) - b) % (2 ^ w : Nat) := by
    rw [← hmod, tickSub, Int.natCast_mod]
  rw [ageAt, ← Int.toNat_natCast (tickSub w a b), hcast]
  norm_cast

/-- Settles O29: the result is below the modulus, and modulo it the integer difference. -/
theorem tickSubtractionIsModular : Obligations.TickSubtractionIsModular := by
  intro w a b ha hb
  refine ⟨tickSub_lt w a b, ?_, tickSub_eq_ageAt w a b⟩
  have hwrap : b + (a + (2 ^ w - b)) = a + 2 ^ w := by omega
  rw [tickSub, Nat.mod_eq_of_lt hb, Nat.add_mod_mod, hwrap, Nat.add_mod_right, Nat.mod_eq_of_lt ha]

/-! ### Sweeping a list of slots -/

/-- Between states with the same output nothing is emitted, whatever the registers. -/
theorem emits_nil {s t : State} (hcfg : t.cfg = s.cfg) (hinput : t.input = s.input) (htrace : t.trace = s.trace)
    (hwrites : t.writes = s.writes) (hdevice : t.device = s.device) : Emits s t [] :=
  emits_congr (emits_refl s) ⟨rfl, rfl, rfl, rfl, rfl⟩ ⟨hcfg, hinput, htrace, hwrites, hdevice⟩

theorem mem_slots (i : SlotIx) : i ∈ ([0, 1, 2] : List SlotIx) := by
  fin_cases i <;> decide

/-- The sweep of the slots of a list, in its order (43_watchdog.md R154). -/
def State.sweep (s : State) (l : List SlotIx) : State := l.foldl State.sweepSlot s

theorem watchdogPass_eq_sweep (s : State) : s.watchdogPass = s.sweep [0, 1, 2] := by
  simp only [State.watchdogPass, State.sweep, List.foldl_cons, List.foldl_nil]

/-- The sweep of one slot does not change whether another is evicted. -/
theorem expired_sweepSlot {i j : SlotIx} (h : j ≠ i) (s : State) : (s.sweepSlot i).expired j = s.expired j := by
  rcases sweepSlot_cases s i with ⟨-, e⟩ | ⟨-, e⟩ <;> rw [e]
  exact expired_setSlot h (s.emit (s.cfg.slot i).level silence) Slot.cleared

/-- The sweep of one slot silences and clears it when it is expired, and does nothing else
(43_watchdog.md R155, R157, R159). -/
theorem sweepSlot_spec (s : State) (i : SlotIx) :
    Emits s (s.sweepSlot i) (if s.expired i then [off s.cfg i] else []) ∧
      (s.sweepSlot i).pool.get i = (if s.expired i then Slot.cleared else s.pool.get i) ∧
      (s.sweepSlot i).framer = s.framer ∧ (s.sweepSlot i).ticks = s.ticks := by
  rcases sweepSlot_cases s i with ⟨hexp, h⟩ | ⟨hexp, h⟩ <;> rw [h, hexp]
  · obtain ⟨hoff, hset, hframer, hticks⟩ := releaseSlot_spec s i
    refine ⟨hoff, ?_, hframer, hticks⟩
    rw [hset, Pool.get_set, if_pos rfl]
    rfl
  · exact ⟨emits_refl s, rfl, rfl, rfl⟩

/-- A sweep silences and clears the expired slots of the list, in its order, and does nothing else. -/
theorem sweep_spec {l : List SlotIx} (hl : l.Nodup) (s : State) :
    Emits s (s.sweep l) ((l.filter s.expired).map (off s.cfg)) ∧
      (∀ i, (s.sweep l).pool.get i = if i ∈ l ∧ s.expired i = true then Slot.cleared else s.pool.get i) ∧
      (s.sweep l).framer = s.framer ∧ (s.sweep l).ticks = s.ticks := by
  induction l generalizing s with
  | nil => exact ⟨emits_refl s, fun i => by simp [State.sweep], rfl, rfl⟩
  | cons j l ih =>
    obtain ⟨hj, hl⟩ := List.nodup_cons.1 hl
    obtain ⟨hwrite, hslot, hframer, hticks⟩ := sweepSlot_spec s j
    obtain ⟨hwrites, hslots, hframer', hticks'⟩ := ih hl (s.sweepSlot j)
    have hexp : ∀ i ∈ l, (s.sweepSlot j).expired i = s.expired i := fun i hi =>
      expired_sweepSlot (ne_of_mem_of_not_mem hi hj) s
    rw [List.filter_congr hexp, State.sweepSlot_cfg] at hwrites
    refine ⟨?_, fun i => ?_, hframer'.trans hframer, hticks'.trans hticks⟩
    · have hall := emits_trans hwrite hwrites
      cases h : s.expired j <;> simpa [State.sweep, h] using hall
    · change ((s.sweepSlot j).sweep l).pool.get i = _
      rw [hslots]
      by_cases hij : i = j
      · subst hij
        simp [hj, hslot]
      · rw [expired_sweepSlot hij, sweepSlot_other s hij]
        simp [hij]

/-! ### The tick -/

/-- At the tick value of the new count, the model's test of a slot is that of the statements
(43_watchdog.md R155 to R157). -/
theorem expired_countTick (s : State) : s.countTick.expired = evicts s s.countTick.ticks := by
  funext i
  simp only [State.expired, State.age, tickSub_eq_ageAt]
  rfl

/-- TICK counts, and at the gate it makes a pass (43_watchdog.md R150 to R160). -/
theorem tickEvent_spec (s : State) :
    s.tickEvent.framer = s.framer ∧ s.tickEvent.ticks = (s.ticks + 1) % 2 ^ s.cfg.tickW ∧
      (s.tickEvent.ticks % 1000 ≠ 0 → s.tickEvent = s.countTick) ∧
      (s.tickEvent.ticks % 1000 = 0 →
        Emits s s.tickEvent ((([0, 1, 2] : List SlotIx).filter (evicts s s.tickEvent.ticks)).map (off s.cfg)) ∧
        ∀ i, s.tickEvent.pool.get i =
          if evicts s s.tickEvent.ticks i = true then { note := 0#7, t0 := 0 } else s.pool.get i) := by
  obtain ⟨hwrites, hslots, hframer, hticks⟩ := sweep_spec (l := [0, 1, 2]) (by decide) s.countTick
  have hgate : s.countTick.passDue = decide (s.countTick.ticks % 1000 = 0) := rfl
  by_cases hdue : s.countTick.ticks % 1000 = 0
  · have htick : s.tickEvent = s.countTick.sweep [0, 1, 2] := by
      rw [← watchdogPass_eq_sweep]
      exact if_pos (hgate.trans (decide_eq_true hdue))
    rw [expired_countTick] at hwrites
    rw [htick, hticks]
    refine ⟨hframer, rfl, fun h => absurd hdue h, fun _ => ⟨?_, fun i => ?_⟩⟩
    · exact emits_congr hwrites ⟨rfl, rfl, rfl, rfl, rfl⟩ ⟨rfl, rfl, rfl, rfl, rfl⟩
    · rw [hslots, expired_countTick]
      simp only [mem_slots, true_and]
      rfl
  · have htick : s.tickEvent = s.countTick :=
      if_neg (ne_true_of_eq_false (hgate.trans (decide_eq_false hdue)))
    rw [htick]
    exact ⟨rfl, rfl, fun _ => rfl, fun h => absurd h hdue⟩

/-- A tick, at the gate or not, writes silences in slot order and nothing else. -/
theorem tickEvent_emits (s : State) :
    ∃ l : List SlotIx, l.length ≤ 3 ∧ Emits s s.tickEvent (l.map (off s.cfg)) := by
  obtain ⟨-, -, hoff, hpass⟩ := tickEvent_spec s
  by_cases hdue : s.tickEvent.ticks % 1000 = 0
  · exact ⟨_, List.length_filter_le _ _, (hpass hdue).1⟩
  · rw [hoff hdue]
    exact ⟨[], by simp, emits_nil rfl rfl rfl rfl rfl⟩

/-- After a tick every slot is as it was, or cleared. -/
theorem tickEvent_slot (s : State) (i : SlotIx) :
    s.tickEvent.pool.get i = s.pool.get i ∨ s.tickEvent.pool.get i = Slot.cleared := by
  obtain ⟨-, -, hoff, hpass⟩ := tickEvent_spec s
  by_cases hdue : s.tickEvent.ticks % 1000 = 0
  · rw [(hpass hdue).2 i]
    split
    · exact .inr rfl
    · exact .inl rfl
  · rw [hoff hdue]
    exact .inl rfl

/-- Settles O27: off the gate the tick only counts, which emits nothing; at the gate it is a pass. -/
theorem tickCountsAndSweepsAtTheGate : Obligations.TickCountsAndSweepsAtTheGate := by
  intro s
  obtain ⟨hframer, hticks, hoff, hpass⟩ := tickEvent_spec s
  refine ⟨_, exec_tick s, hframer, hticks, fun h => ?_, hpass⟩
  rw [hoff h]
  exact ⟨emits_nil rfl rfl rfl rfl rfl, rfl⟩

end Sys2Proof.Machine

/-! A step as a function (40_step_and_framer.md R90): the next event is taken between the beginning and the end of the
step, and it is never refused (60_exceptions.md R170). And, once for every instruction, what it can make of a state. -/

namespace Sys2Proof.Machine

open Sys2Proof.Safety

/-! ### The step as a function -/

/-- What the block does with one event. -/
def State.take (s : State) : Input → State
  | .byte b => s.frame b
  | .idle => s.tickEvent
  | .reset => s.resetEvent

/-- The row an event selects has the effect of taking the event (30_encoding.md R88). -/
theorem exec_decodeEvent (s : State) (u : Input) : exec (decodeEvent s.phase u) s = .next (s.take u) := by
  cases u with
  | byte b => exact exec_decodeByte s b
  | idle => rfl
  | reset => rfl

/-- The state after one step. -/
def State.stepped (s : State) : State := (s.beginStep.take s.nextInput).endStep

theorem step_eq_stepped (s : State) : step s = .next s.stepped :=
  step_of_exec (exec_decodeEvent s.beginStep s.nextInput)

theorem eq_stepped_of_step {s t : State} (h : step s = .next t) : t = s.stepped :=
  (Host.Outcome.next.inj ((step_eq_stepped s).symm.trans h)).symm

theorem stepped_of_idle {s : State} (h : s.nextInput = .idle) : s.stepped = s.beginStep.tickEvent.endStep := by
  rw [State.stepped, h]
  rfl

/-! ### The framer, phase by phase -/

theorem dataVal_dataByte (d : Data) : dataVal (dataByte d) = d := by
  revert d
  decide

theorem phase_eq_idle {s : State} : s.phase = .idle ↔ s.framer.stValid = false := by
  unfold State.phase
  split_ifs <;> simp_all

theorem phase_eq_awaiting0 {s : State} : s.phase = .awaiting0 ↔ s.framer.stValid = true ∧ s.framer.cnt = 0#1 := by
  unfold State.phase
  split_ifs <;> simp_all

theorem phase_eq_awaiting1 {s : State} : s.phase = .awaiting1 ↔ s.framer.stValid = true ∧ s.framer.cnt ≠ 0#1 := by
  unfold State.phase
  split_ifs <;> simp_all

theorem frame_data_of_idle {s : State} {b : Byte} (hb : isStatus b = false) (h : s.phase = .idle) : s.frame b = s := by
  simp [State.frame, hb, phase_eq_idle.1 h]

theorem frame_data_of_awaiting0 {s : State} {b : Byte} (hb : isStatus b = false) (h : s.phase = .awaiting0) :
    s.frame b = s.takeFirstData (dataVal b) := by
  obtain ⟨hvalid, hcnt⟩ := phase_eq_awaiting0.1 h
  simp [State.frame, hb, hvalid, hcnt]

theorem frame_data_of_awaiting1 {s : State} {b : Byte} (hb : isStatus b = false) (h : s.phase = .awaiting1) :
    s.frame b = s.takeSecondData (dataVal b) := by
  obtain ⟨hvalid, hcnt⟩ := phase_eq_awaiting1.1 h
  simp [State.frame, hb, hvalid, hcnt]

@[simp] theorem latchStatus_phase (s : State) (st : Byte) : (s.latchStatus st).phase = .awaiting0 :=
  phase_eq_awaiting0.2 ⟨rfl, rfl⟩

theorem takeFirstData_phase {s : State} (d : Data) (h : s.phase = .awaiting0) :
    (s.takeFirstData d).phase = .awaiting1 :=
  phase_eq_awaiting1.2 ⟨(phase_eq_awaiting0.1 h).1, by simp⟩

/-- The dispatch of the second data byte, seen from before the byte: the framer takes no part in it
(40_step_and_framer.md R98, 41_dispatcher.md R121). -/
theorem takeSecondData_eq_dispatch (s : State) (d : Data) :
    s.takeSecondData d = (s.dispatch s.framer.st s.framer.note d).withFramer
      { s.framer with cnt := 0#1, note := 0#7, vel := 0#7 } := by
  simp only [State.takeSecondData, State.withFramer_framer, dispatch_withFramer]
  rfl

@[simp] theorem takeSecondData_framer (s : State) (d : Data) :
    (s.takeSecondData d).framer = { s.framer with cnt := 0#1, note := 0#7, vel := 0#7 } := by
  rw [takeSecondData_eq_dispatch, State.withFramer_framer]

theorem takeSecondData_phase {s : State} (d : Data) (h : s.phase = .awaiting1) :
    (s.takeSecondData d).phase = .awaiting0 := by
  obtain ⟨hvalid, -⟩ := phase_eq_awaiting1.1 h
  exact phase_eq_awaiting0.2 ⟨by rw [takeSecondData_framer, hvalid], by rw [takeSecondData_framer]⟩

/-! ### A running-status continuation, phase by phase (30_encoding.md R87 (c)) -/

theorem frame_dataBytes_of_idle {s : State} (h : s.phase = .idle) (a b : Data) :
    (s.frame (dataByte a)).frame (dataByte b) = s := by
  rw [frame_data_of_idle (Laws.isStatus_dataByte a) h, frame_data_of_idle (Laws.isStatus_dataByte b) h]

theorem frame_dataBytes_of_awaiting0 {s : State} (h : s.phase = .awaiting0) (a b : Data) :
    (s.frame (dataByte a)).frame (dataByte b) = (s.takeFirstData a).takeSecondData b := by
  rw [frame_data_of_awaiting0 (Laws.isStatus_dataByte a) h, dataVal_dataByte,
    frame_data_of_awaiting1 (Laws.isStatus_dataByte b) (takeFirstData_phase a h), dataVal_dataByte]

theorem frame_dataBytes_of_awaiting1 {s : State} (h : s.phase = .awaiting1) (a b : Data) :
    (s.frame (dataByte a)).frame (dataByte b) = (s.takeSecondData a).takeFirstData b := by
  rw [frame_data_of_awaiting1 (Laws.isStatus_dataByte a) h, dataVal_dataByte,
    frame_data_of_awaiting0 (Laws.isStatus_dataByte b) (takeSecondData_phase a h), dataVal_dataByte]

theorem withFramer_withFramer (s : State) (f g : Framer) : (s.withFramer f).withFramer g = s.withFramer g := rfl

/-! ### What a dispatch can do -/

/-- What the operation of a dispatch can make of the state `p` after the preamble, under the status byte `st`: nothing, a
raw write, the release of a first holder, or the programming of a selected slot (41_dispatcher.md R110, 42_voice_pool.md
R133, R141). -/
inductive DispatchOutcome (p : State) (st : Byte) : State → Prop where
  | nothing : DispatchOutcome p st p
  | raw (a d : Data) (hst : st = stRawWrite) : DispatchOutcome p st (p.emit (zext8 a) (zext8 d))
  | released (n : Data) (i : SlotIx) (hi : FirstHolding p.pool n i) : DispatchOutcome p st (p.releaseSlot i)
  | programmed (n : Data) (i : SlotIx) (hi : Selected p.pool n i) : DispatchOutcome p st (p.programSlot i n)

section DispatchOutcomes

variable {p u : State} {st : Byte}

theorem release_outcome (p : State) (st : Byte) (n : Data) : DispatchOutcome p st (p.release n) := by
  rcases release_cases p n with ⟨i, hi, h⟩ | ⟨-, h⟩ <;> rw [h]
  · exact .released n i hi
  · exact .nothing

theorem allocate_outcome (p : State) (st : Byte) (n v : Data) : DispatchOutcome p st (p.allocate n v) := by
  rcases allocate_cases p n v with ⟨-, h⟩ | ⟨-, i, hi, h⟩ | ⟨-, -, h⟩ <;> rw [h]
  · exact release_outcome p st n
  · exact .programmed n i hi
  · exact .nothing

theorem dispatch_outcome (s : State) (st : Byte) (n v : Data) :
    DispatchOutcome s.preamble st (s.dispatch st n v) := by
  rcases dispatch_cases s st n v with ⟨hst, h⟩ | ⟨-, -, h⟩ | ⟨-, -, h⟩ | ⟨-, -, -, h⟩ <;> rw [h]
  · exact .raw n v hst
  · exact allocate_outcome _ st n v
  · exact release_outcome _ st n
  · exact .nothing

/-- After the preamble a dispatch makes at most three writes, all of the table (20_memory.md R52, 41_dispatcher.md
R120). -/
theorem DispatchOutcome.emits (h : DispatchOutcome p st u) :
    ∃ ws, Emits p u ws ∧ ws.length ≤ 3 ∧ ∀ w ∈ ws, InWriteTable p.cfg st w := by
  cases h with
  | nothing => exact ⟨[], emits_refl p, by simp, by simp⟩
  | raw a d hst =>
    refine ⟨_, emit_emits p _ _, by simp, fun w hw => ?_⟩
    rw [List.mem_singleton.1 hw]
    exact .inr (.inr (.inr ⟨hst, toNat_setWidth_data_le a, toNat_setWidth_data_le d⟩))
  | released n i hi =>
    refine ⟨_, (releaseSlot_spec p i).1, by simp, fun w hw => ?_⟩
    exact .inr (.inr (.inl ⟨i, List.mem_singleton.1 hw⟩))
  | programmed n i hi =>
    exact ⟨_, (programSlot_spec p i n).1, by simp [on], fun w hw => .inr (.inl ⟨i, n, hw⟩)⟩

/-- After a dispatch every slot is as it was, or cleared, or it was selected for the one note of the message and
programmed with it. -/
theorem DispatchOutcome.slots (h : DispatchOutcome p st u) :
    ∃ n, ∀ j, u.pool.get j = p.pool.get j ∨ u.pool.get j = Slot.cleared ∨
      (Selected p.pool n j ∧ u.pool.get j = { note := n, t0 := p.ticks }) := by
  cases h with
  | nothing => exact ⟨0#7, fun _ => .inl rfl⟩
  | raw a d hst => exact ⟨0#7, fun _ => .inl rfl⟩
  | released n i hi =>
    refine ⟨n, fun j => ?_⟩
    rw [(releaseSlot_spec p i).2.1, Pool.get_set]
    split
    · exact .inr (.inl rfl)
    · exact .inl rfl
  | programmed n i hi =>
    refine ⟨n, fun j => ?_⟩
    rw [(programSlot_spec p i n).2.1, Pool.get_set]
    split
    · rename_i hji
      exact .inr (.inr ⟨hji ▸ hi, rfl⟩)
    · exact .inl rfl

theorem DispatchOutcome.ticks_eq (h : DispatchOutcome p st u) : u.ticks = p.ticks := by
  cases h <;> rfl

end DispatchOutcomes

/-! ### What an instruction can do -/

/-- What an instruction can make of the state `s`: it sets the framer and writes nothing; it dispatches a message and sets
the framer, with the status byte of the message latched; it is a tick; or it is a reset. -/
inductive ExecOutcome (s : State) : State → Prop where
  | silent (f : Framer) : ExecOutcome s (s.withFramer f)
  | message (f : Framer) {u : State} (hu : DispatchOutcome s.preamble f.st u) : ExecOutcome s (u.withFramer f)
  | tick : ExecOutcome s s.tickEvent
  | reset : ExecOutcome s s.resetEvent

theorem takeSecondData_outcome (s : State) (d : Data) : ExecOutcome s (s.takeSecondData d) := by
  rw [takeSecondData_eq_dispatch]
  exact .message { s.framer with cnt := 0#1, note := 0#7, vel := 0#7 }
    (dispatch_outcome s s.framer.st s.framer.note d)

theorem frame_outcome (s : State) (b : Byte) : ExecOutcome s (s.frame b) := by
  rcases frame_cases s b with ⟨-, h⟩ | ⟨-, -, h⟩ | ⟨-, -, -, h⟩ | ⟨-, -, -, h⟩ <;> rw [h]
  · exact .silent _
  · exact .silent s.framer
  · exact .silent _
  · exact takeSecondData_outcome s _

theorem take_outcome (s : State) (u : Input) : ExecOutcome s (s.take u) := by
  cases u with
  | byte b => exact frame_outcome s b
  | idle => exact .tick
  | reset => exact .reset

/-- A continuation dispatches at most one message, and changes nothing but the framer beside it. -/
theorem rs_outcome (s : State) (a b : Data) : ExecOutcome s ((s.frame (dataByte a)).frame (dataByte b)) := by
  cases h : s.phase with
  | idle =>
    rw [frame_dataBytes_of_idle h]
    exact .silent s.framer
  | awaiting0 =>
    rw [frame_dataBytes_of_awaiting0 h, takeSecondData_eq_dispatch, State.takeFirstData, dispatch_withFramer,
      withFramer_withFramer]
    exact .message { s.framer with cnt := 0#1, note := 0#7, vel := 0#7 } (dispatch_outcome s s.framer.st a b)
  | awaiting1 =>
    rw [frame_dataBytes_of_awaiting1 h, takeSecondData_eq_dispatch, State.takeFirstData, withFramer_withFramer]
    exact .message { s.framer with cnt := 1#1, note := b, vel := 0#7 }
      (dispatch_outcome s s.framer.st s.framer.note a)

/-- Every instruction answers a next state, and one of the outcomes. A message latches its status before the preamble,
which comes to the same as latching it at the end. -/
theorem exec_outcome (i : Instr) (s : State) : ∃ t, exec i s = .next t ∧ ExecOutcome s t := by
  cases i with
  | rawWrite a d => exact ⟨_, rfl, .message (latched stRawWrite) (.raw a d rfl)⟩
  | noteOn c n v =>
    refine ⟨_, exec_noteOn c n v s, ?_⟩
    rw [State.latchStatus, preamble_withFramer, allocate_withFramer]
    exact .message (latched (statusByte 0b001#3 c)) (allocate_outcome _ _ n v)
  | noteOff c n v =>
    refine ⟨_, exec_noteOff c n v s, ?_⟩
    rw [State.latchStatus, preamble_withFramer, release_withFramer]
    exact .message (latched (statusByte 0b000#3 c)) (release_outcome _ _ n)
  | ignoredA0 c | ignoredB0 c | ignoredC0 c | ignoredD0 c | ignoredE0 c | ignoredF0 c =>
    exact ⟨_, rfl, .message (latched _) .nothing⟩
  | rs a b => exact ⟨_, exec_rs a b s, rs_outcome s a b⟩
  | status o c => exact ⟨_, rfl, .silent _⟩
  | dataIdle v => exact ⟨_, rfl, .silent s.framer⟩
  | data1 v => exact ⟨_, rfl, .silent _⟩
  | data2 v => exact ⟨_, rfl, takeSecondData_outcome s v⟩
  | tick => exact ⟨_, rfl, .tick⟩
  | reset => exact ⟨_, rfl, .reset⟩

theorem outcome_of_exec {i : Instr} {s t : State} (h : exec i s = .next t) : ExecOutcome s t := by
  obtain ⟨u, hu, hout⟩ := exec_outcome i s
  rwa [Host.Outcome.next.inj (h.symm.trans hu)]

/-- Settles O2: every row has an outcome, and a step is the row its event selects. -/
theorem everyStepAnswersNext : Obligations.EveryStepAnswersNext :=
  ⟨fun i s => (exec_outcome i s).imp fun _ h => h.1, fun s => ⟨_, step_eq_stepped s⟩⟩

section ExecOutcomes

variable {s t : State}

/-- An instruction only appends writes, all of the table under the status byte it leaves latched (20_memory.md R52). -/
theorem ExecOutcome.emits (h : ExecOutcome s t) :
    ∃ ws, Emits s t ws ∧ ∀ w ∈ ws, InWriteTable s.cfg t.framer.st w := by
  cases h with
  | silent f => exact ⟨[], emits_nil rfl rfl rfl rfl rfl, by simp⟩
  | message f hu =>
    obtain ⟨ws, hws, -, htable⟩ := hu.emits
    refine ⟨_, emits_congr (emits_trans (preamble_emits s) hws) ⟨rfl, rfl, rfl, rfl, rfl⟩ ⟨rfl, rfl, rfl, rfl, rfl⟩,
      fun w hw => ?_⟩
    rcases List.mem_cons.1 hw with rfl | hw
    · exact .inl rfl
    · exact htable w hw
  | tick =>
    obtain ⟨l, -, hl⟩ := tickEvent_emits s
    refine ⟨_, hl, fun w hw => ?_⟩
    obtain ⟨i, -, rfl⟩ := List.mem_map.1 hw
    exact .inr (.inr (.inl ⟨i, rfl⟩))
  | reset => exact ⟨[], emits_nil rfl rfl rfl rfl rfl, by simp⟩

/-- What an instruction does to the slots: each is as it was, or cleared, or it was selected for one note and programmed
with it. -/
theorem ExecOutcome.slots (h : ExecOutcome s t) :
    ∃ n, ∀ j, t.pool.get j = s.pool.get j ∨ t.pool.get j = Slot.cleared ∨
      (Selected s.pool n j ∧ t.pool.get j = { note := n, t0 := s.ticks }) := by
  cases h with
  | silent f => exact ⟨0#7, fun _ => .inl rfl⟩
  | message f hu => exact hu.slots
  | tick => exact ⟨0#7, fun j => (tickEvent_slot s j).imp_right .inl⟩
  | reset => exact ⟨0#7, fun j => .inr (.inl (Pool.reset_get j))⟩

end ExecOutcomes

end Sys2Proof.Machine

/-! The invariants every step keeps (10_state.md R30, R41, 00_scope.md R12, R16), and the rules of the whole machine that
follow from what an instruction can do: its writes, the slots it leaves, and the two event kinds. -/

namespace Sys2Proof.Machine

open Sys2Proof.Safety

/-! ### The framer invariants (10_state.md R41) -/

theorem framerInv_latched {st : Byte} (hst : isStatus st = true) : FramerInv (latched st) :=
  ⟨nofun, fun _ => hst, fun _ => rfl, rfl⟩

theorem frame_keeps_framerInv {s : State} (h : FramerInv s.framer) (b : Byte) : FramerInv (s.frame b).framer := by
  have ⟨_, hstatus, _, hvel⟩ := h
  rcases frame_cases s b with ⟨hb, hf⟩ | ⟨-, -, hf⟩ | ⟨-, hvalid, -, hf⟩ | ⟨-, hvalid, -, hf⟩ <;> rw [hf]
  · exact framerInv_latched hb
  · exact h
  · exact ⟨fun hn => absurd hvalid (ne_true_of_eq_false hn), hstatus, nofun, hvel⟩
  · rw [takeSecondData_framer]
    exact ⟨fun hn => absurd hvalid (ne_true_of_eq_false hn), hstatus, fun _ => rfl, rfl⟩

theorem framerInv_reset : FramerInv Framer.reset := by decide

/-- Settles O36: a byte is handled by `Frame(b)`, `IDLE` leaves the framer alone, and RESET resets it. -/
theorem everyStepKeepsTheFramerInvariants : Obligations.EveryStepKeepsTheFramerInvariants := by
  intro s t hinv h
  obtain rfl := eq_stepped_of_step h
  unfold State.stepped
  cases s.nextInput with
  | byte b => exact frame_keeps_framerInv (s := s.beginStep) hinv b
  | idle =>
    obtain ⟨hframer, -⟩ := tickEvent_spec s.beginStep
    have hidle : (s.beginStep.take .idle).endStep.framer = s.framer := hframer
    rwa [hidle]
  | reset => exact framerInv_reset

/-! ### Unique holders (10_state.md R30) -/

/-- Whatever an instruction programs, it programs the one selected slot, and a slot is selected for a note only if it
holds it already or no slot does. -/
theorem ExecOutcome.keeps_uniqueHolder {s t : State} (h : ExecOutcome s t) (huniq : UniqueHolder s.pool) :
    UniqueHolder t.pool := by
  obtain ⟨n, hslots⟩ := h.slots
  -- no other slot can keep the note that is programmed
  have hkept {i j : SlotIx} (hi : t.pool.get i = s.pool.get i) (hj : Selected s.pool n j)
      (hnote : (t.pool.get i).note = n) (hne : (t.pool.get i).note ≠ 0#7) : i = j := by
    rw [hi] at hnote hne
    rcases hj with hj | ⟨hnone, -⟩
    · exact huniq i j (hnote.trans hj.1.symm) hne
    · exact absurd hnote (hnone i)
  intro i j hij hne
  have hfree {k : SlotIx} (hk : t.pool.get k = Slot.cleared) : (t.pool.get k).note = 0#7 := by rw [hk]; rfl
  rcases hslots i with hi | hi | ⟨hsi, hi⟩
  · rcases hslots j with hj | hj | ⟨hsj, hj⟩
    · rw [hi] at hij hne
      rw [hj] at hij
      exact huniq i j hij hne
    · exact absurd (hij.trans (hfree hj)) hne
    · exact hkept hi hsj (hij.trans (congrArg Slot.note hj)) hne
  · exact absurd (hfree hi) hne
  · rcases hslots j with hj | hj | ⟨hsj, -⟩
    · exact (hkept hj hsi (hij.symm.trans (congrArg Slot.note hi)) (hij ▸ hne)).symm
    · exact absurd (hij.trans (hfree hj)) hne
    · exact selected_unique hsi hsj

/-- Settles O37: every instruction keeps the invariant, and a step is one instruction. -/
theorem everyStepKeepsTheUniqueHolder : Obligations.EveryStepKeepsTheUniqueHolder := by
  refine ⟨fun s t huniq h => ?_, fun i s t huniq h => (outcome_of_exec h).keeps_uniqueHolder huniq⟩
  obtain ⟨u, hexec, rfl⟩ := exec_of_step h
  exact (outcome_of_exec hexec).keeps_uniqueHolder (s := s.beginStep) huniq

/-! ### The output invariant (00_scope.md R16, 20_memory.md R65) -/

theorem replay_append (m : Memory) (ws ws' : List Write) : replay m (ws ++ ws') = replay (replay m ws) ws' :=
  List.foldl_append

theorem replay_wf {m : Memory} (h : m.wf) (ws : List Write) : (replay m ws).wf := by
  induction ws generalizing m with
  | nil => exact h
  | cons p ws ih => exact ih (Memory.write_wf h p.1.isLt p.2)

theorem memory_wf_nil : Memory.wf [] := ⟨List.Pairwise.nil, by simp⟩

/-- From `s` to `t` writes are appended to `W`, the device is what they make of it, and earlier output stands. -/
def Replays (s t : State) : Prop :=
  t.trace = s.trace ∧ ∃ ws, t.writes = s.writes ++ ws ∧ t.device = replay s.device ws

theorem replays_of_eq {s t : State} (htrace : t.trace = s.trace) (hwrites : t.writes = s.writes)
    (hdevice : t.device = s.device) : Replays s t :=
  ⟨htrace, [], by rw [hwrites, List.append_nil], hdevice⟩

theorem replays_emit (s : State) (a v : Byte) : Replays s (s.emit a v) := ⟨rfl, [(a, v)], rfl, rfl⟩

theorem replays_trans {s t u : State} (h : Replays s t) (h' : Replays t u) : Replays s u := by
  obtain ⟨htrace, ws, hwrites, hdevice⟩ := h
  obtain ⟨htrace', ws', hwrites', hdevice'⟩ := h'
  exact ⟨htrace'.trans htrace, ws ++ ws', by rw [hwrites', hwrites, List.append_assoc],
    by rw [hdevice', hdevice, replay_append]⟩

theorem replays_releaseSlot (s : State) (i : SlotIx) : Replays s (s.releaseSlot i) :=
  replays_trans (replays_emit s _ _) (replays_of_eq rfl rfl rfl)

theorem replays_programSlot (s : State) (i : SlotIx) (n : Data) : Replays s (s.programSlot i n) :=
  replays_trans (replays_emit s _ _) <| replays_trans (replays_emit _ _ _) <|
    replays_trans (replays_emit _ _ _) (replays_of_eq rfl rfl rfl)

theorem DispatchOutcome.replays {p u : State} {st : Byte} (h : DispatchOutcome p st u) : Replays p u := by
  cases h with
  | nothing => exact replays_of_eq rfl rfl rfl
  | raw a d => exact replays_emit p _ _
  | released n i => exact replays_releaseSlot p i
  | programmed n i => exact replays_programSlot p i n

theorem replays_sweepSlot (s : State) (i : SlotIx) : Replays s (s.sweepSlot i) := by
  rcases sweepSlot_cases s i with ⟨-, h⟩ | ⟨-, h⟩ <;> rw [h]
  · exact replays_releaseSlot s i
  · exact replays_of_eq rfl rfl rfl

theorem replays_tickEvent (s : State) : Replays s s.tickEvent := by
  refine replays_trans (t := s.countTick) (replays_of_eq rfl rfl rfl) ?_
  simp only [State.tickEvent]
  split
  · exact replays_trans (replays_sweepSlot _ 0) <| replays_trans (replays_sweepSlot _ 1) (replays_sweepSlot _ 2)
  · exact replays_of_eq rfl rfl rfl

theorem ExecOutcome.replays {s t : State} (h : ExecOutcome s t) : Replays s t := by
  cases h with
  | silent f => exact replays_of_eq rfl rfl rfl
  | message f hu =>
    exact replays_trans (replays_emit s _ _) <| replays_trans hu.replays (replays_of_eq rfl rfl rfl)
  | tick => exact replays_tickEvent s
  | reset => exact replays_of_eq rfl rfl rfl

/-- Settles O39: the writes of the step are replayed on the device and appended to the trace alike. -/
theorem everyStepKeepsTheOutputInvariant : Obligations.EveryStepKeepsTheOutputInvariant := by
  rintro s t ⟨-, hreplay, -⟩ h
  obtain ⟨u, hexec, rfl⟩ := exec_of_step h
  obtain ⟨htrace, ws, hwrites, hdevice⟩ := (outcome_of_exec hexec).replays
  have hwrites : u.writes = ws := hwrites
  have htrace : u.endStep.trace = s.trace ++ ws := by rw [State.endStep_trace, htrace, hwrites]; rfl
  have hdevice : u.endStep.device = replay [] u.endStep.trace := by
    rw [htrace, replay_append, ← hreplay]
    exact hdevice
  refine ⟨hdevice ▸ replay_wf memory_wf_nil _, hdevice, ?_⟩
  rw [htrace, State.endStep_writes, hwrites]
  exact List.suffix_append _ _

/-! ### Ticks in range (00_scope.md R12, R14) -/

theorem ExecOutcome.ticks_cases {s t : State} (h : ExecOutcome s t) :
    t.ticks = s.ticks ∨ t.ticks = (s.ticks + 1) % 2 ^ s.cfg.tickW ∨ t.ticks = 0 := by
  cases h with
  | silent f => exact .inl rfl
  | message f hu => exact .inl hu.ticks_eq
  | tick =>
    obtain ⟨-, hticks, -⟩ := tickEvent_spec s
    exact .inr (.inl hticks)
  | reset => exact .inr (.inr rfl)

/-- Settles O38: the counter stays, is reduced or is 0, and a stamp stays, is 0 or is the counter's. -/
theorem everyStepKeepsTicksInRange : Obligations.EveryStepKeepsTicksInRange := by
  rintro s t ⟨hticks, hstamps⟩ h
  have hcfg := step_keeps_cfg h
  have hpos : 0 < 2 ^ s.cfg.tickW := Nat.two_pow_pos _
  obtain ⟨u, hexec, rfl⟩ := exec_of_step h
  have hout := outcome_of_exec hexec
  rw [TicksInRange, hcfg]
  constructor
  · rcases hout.ticks_cases with hu | hu | hu <;> rw [State.endStep_ticks, hu]
    · exact hticks
    · exact Nat.mod_lt _ hpos
    · exact hpos
  · intro i
    obtain ⟨n, hslots⟩ := hout.slots
    rcases hslots i with hi | hi | ⟨-, hi⟩ <;> rw [State.endStep_pool, hi]
    · exact hstamps i
    · exact hpos
    · exact hticks

/-- Settles O35: the framer and the slots are 0, no slot holds a note, and nothing has been output. -/
theorem resetStateMeetsTheInvariants : Obligations.ResetStateMeetsTheInvariants := by
  have hpos : 0 < 2 ^ State.reset.cfg.tickW := Nat.two_pow_pos _
  have hget (i : SlotIx) : State.reset.pool.get i = Slot.cleared := Pool.reset_get i
  refine ⟨framerInv_reset, fun i j _ hne => ?_, ⟨hpos, fun i => ?_⟩, State.reset_device_wf, rfl, List.suffix_rfl⟩
  · rw [hget] at hne
    exact absurd rfl hne
  · rw [hget]
    exact hpos

/-! ### The writes -/

/-- Settles O4: every instruction only appends writes. -/
theorem everyInstructionOnlyAppendsWrites : Obligations.EveryInstructionOnlyAppendsWrites := fun _ _ _ h =>
  (outcome_of_exec h).emits.imp fun _ hws => hws.1

/-- Settles O3: the instruction of the step leaves the trace alone, and the end of the step joins `W` to it. -/
theorem outputTraceIsConcatenationOfWriteLists : Obligations.OutputTraceIsConcatenationOfWriteLists := by
  intro s t h
  obtain ⟨u, hexec, rfl⟩ := exec_of_step h
  obtain ⟨ws, ⟨-, -, htrace, -⟩, -⟩ := (outcome_of_exec hexec).emits
  rw [State.endStep_trace, htrace]
  rfl

theorem ExecOutcome.writes_inWriteTable {s t : State} (h : ExecOutcome s t) (hs : s.writes = []) :
    ∀ p ∈ t.writes, InWriteTable s.cfg t.framer.st p := by
  obtain ⟨ws, ⟨-, -, -, hwrites, -⟩, htable⟩ := h.emits
  rwa [hwrites, hs, List.nil_append]

/-- Settles O42: from an empty write list every write of an instruction is in the table, and a step begins with one. -/
theorem everyWriteIsInTheWriteTable : Obligations.EveryWriteIsInTheWriteTable := by
  refine ⟨fun s t h => ?_, fun i s t hs h => (outcome_of_exec h).writes_inWriteTable hs⟩
  obtain ⟨u, hexec, rfl⟩ := exec_of_step h
  exact (outcome_of_exec hexec).writes_inWriteTable rfl

/-! ### The voice pool -/

/-- An occupied slot that is selected for a note holds it already (42_voice_pool.md R134). -/
theorem note_of_selected_of_occupied {p : Pool} {n : Data} {i : SlotIx} (hi : Selected p n i)
    (hne : (p.get i).note ≠ 0#7) : (p.get i).note = n := by
  rcases hi with hi | ⟨-, hfree, -⟩
  · exact hi.1
  · exact absurd hfree hne

/-- What an instruction does to an occupied slot: nothing, or it clears it, or it stamps it anew under the same note
(42_voice_pool.md R145). -/
theorem ExecOutcome.occupied_slot {s t : State} (h : ExecOutcome s t) {i : SlotIx} (hne : (s.pool.get i).note ≠ 0#7) :
    t.pool.get i = s.pool.get i ∨ t.pool.get i = Slot.cleared ∨
      t.pool.get i = { note := (s.pool.get i).note, t0 := s.ticks } := by
  obtain ⟨n, hslots⟩ := h.slots
  rcases hslots i with hi | hi | ⟨hsel, hi⟩
  · exact .inl hi
  · exact .inr (.inl hi)
  · rw [note_of_selected_of_occupied hsel hne]
    exact .inr (.inr hi)

/-- Settles O43: an occupied slot is left alone, cleared or stamped anew. -/
theorem occupiedSlotKeepsItsNoteOrIsFreed : Obligations.OccupiedSlotKeepsItsNoteOrIsFreed := by
  intro s t i hne h
  have hout : ∃ s', s'.pool = s.pool ∧ ∃ u, u.pool = t.pool ∧ ExecOutcome s' u := by
    rcases h with h | ⟨k, h⟩
    · obtain ⟨u, hexec, rfl⟩ := exec_of_step h
      exact ⟨s.beginStep, rfl, u, rfl, outcome_of_exec hexec⟩
    · exact ⟨s, rfl, t, rfl, outcome_of_exec h⟩
  obtain ⟨s', hs, u, hu, hout⟩ := hout
  rw [← hs] at hne ⊢
  rw [← hu]
  rcases hout.occupied_slot hne with hi | hi | hi <;> rw [hi]
  · exact .inl rfl
  · exact .inr rfl
  · exact .inl rfl

/-- With unique holders a release of a note other than 0 leaves no slot holding it (42_voice_pool.md R146 (a)). -/
theorem release_leaves_no_holder {s : State} {n : Data} (hn : n ≠ 0#7) (huniq : UniqueHolder s.pool) (i : SlotIx) :
    ((s.release n).pool.get i).note ≠ n := by
  rcases release_cases s n with ⟨j, hj, h⟩ | ⟨hnone, h⟩ <;> rw [h]
  · rw [(releaseSlot_spec s j).2.1, Pool.get_set]
    split
    · exact hn.symm
    · rename_i hij
      exact fun hi => hij (huniq i j (hi.trans hj.1.symm) (hi.trans_ne hn))
  · exact hnone i

/-- A message that releases a note other than 0 leaves no slot holding it. -/
theorem message_release_leaves_no_holder {s : State} {n : Data} (hn : n ≠ 0#7) (huniq : UniqueHolder s.pool)
    (st : Byte) (i : SlotIx) : (((s.latchStatus st).preamble.release n).pool.get i).note ≠ n :=
  release_leaves_no_holder (s := (s.latchStatus st).preamble) hn huniq i

/-- Settles O44: the note-on keeps the holders unique, so the note-off frees the only one. -/
theorem releaseAfterAllocateLeavesNoHolder : Obligations.ReleaseAfterAllocateLeavesNoHolder := by
  intro c c' n v w s hn _ huniq
  have hon := exec_noteOn c n v s
  exact ⟨_, _, hon, exec_noteOff c' n w _,
    message_release_leaves_no_holder hn ((outcome_of_exec hon).keeps_uniqueHolder huniq) _⟩

/-! ### The two kinds of events (40_step_and_framer.md R91, R104) -/

@[simp] theorem frame_ticks (s : State) (b : Byte) : (s.frame b).ticks = s.ticks := by
  rcases frame_cases s b with ⟨-, h⟩ | ⟨-, -, h⟩ | ⟨-, -, -, h⟩ | ⟨-, -, -, h⟩ <;> rw [h]
  · rfl
  · rfl
  · obtain ⟨-, hticks, -⟩ := dispatch_frame s s.framer.st s.framer.note (dataVal b)
    rw [takeSecondData_eq_dispatch, State.withFramer_ticks, hticks]

theorem stepped_ticks_of_byte {s : State} {b : Byte} (h : s.nextInput = .byte b) : s.stepped.ticks = s.ticks := by
  rw [State.stepped, h]
  exact frame_ticks s.beginStep b

theorem stepped_ticks_of_idle {s : State} (h : s.nextInput = .idle) :
    s.stepped.ticks = (s.ticks + 1) % 2 ^ s.cfg.tickW := by
  obtain ⟨-, hticks, -⟩ := tickEvent_spec s.beginStep
  rw [stepped_of_idle h]
  exact hticks

theorem stepped_framer_of_idle {s : State} (h : s.nextInput = .idle) : s.stepped.framer = s.framer := by
  obtain ⟨hframer, -⟩ := tickEvent_spec s.beginStep
  rw [stepped_of_idle h]
  exact hframer

theorem stepped_input (s : State) : s.stepped.input = s.input.tail := by
  obtain ⟨ws, ⟨-, hinput, -⟩, -⟩ := (take_outcome s.beginStep s.nextInput).emits
  exact hinput

/-- Settles O40: an event that is neither `IDLE` nor `RESET` is a byte, and a byte does not count. -/
theorem bytesKeepTicksAndIdleKeepsTheFramer : Obligations.BytesKeepTicksAndIdleKeepsTheFramer := by
  intro s t h
  obtain rfl := eq_stepped_of_step h
  refine ⟨fun hidle hreset => ?_, stepped_framer_of_idle⟩
  cases hu : s.nextInput with
  | byte b => exact stepped_ticks_of_byte hu
  | idle => exact absurd hu hidle
  | reset => exact absurd hu hreset

/-- Settles O49: the event of the step is the first of the coming input, or `IDLE`, which brings no byte. -/
theorem stepConsumesAtMostOneByte : Obligations.StepConsumesAtMostOneByte := by
  intro s
  refine ⟨_, step_eq_stepped s, ?_, ?_, ?_, fun ⟨b, hb⟩ => stepped_ticks_of_byte hb, stepped_ticks_of_idle⟩
  · rw [stepped_input, List.drop_one]
  · rw [stepped_input]
    cases h : s.input with
    | nil => simp [State.nextInput, h, eventBytes]
    | cons u rest => simp [State.nextInput, h]
  · cases s.nextInput <;> simp [eventBytes]

end Sys2Proof.Machine

/-! What cannot be observed does not matter (10_state.md R45, 20_memory.md R51): a relation between states that an observer
cannot tell apart and whose write lists are equal, kept by every operation and so by every step. -/

namespace Sys2Proof.Machine

open Sys2Proof.Safety

/-! ### The relation -/

/-- Two states that an observer cannot tell apart, with equal write lists. -/
structure Alike (s s' : State) : Prop where
  cfg : s.cfg = s'.cfg
  input : s.input = s'.input
  ticks : s.ticks = s'.ticks
  framer : SameFramer s.framer s'.framer
  slots : ∀ i, SameSlot (s.pool.get i) (s'.pool.get i)
  writes : s.writes = s'.writes

theorem sameFramer_refl (f : Framer) : SameFramer f f := ⟨rfl, rfl, rfl, rfl, fun _ => rfl⟩

theorem sameSlot_refl (x : Slot) : SameSlot x x := ⟨rfl, fun _ => rfl⟩

section AlikeStates

variable {s s' : State} (h : Alike s s')
include h

/-! ### The scans and the watchdog's test see no difference -/

/-- A scan looks at the notes alone. -/
theorem Alike.holder (n : Data) : s.pool.holder n = s'.pool.holder n := by
  have hholds (i : SlotIx) : s.pool.holds i n = s'.pool.holds i n := by
    rw [Pool.holds, Pool.holds, (h.slots i).1]
  rw [Pool.holder, Pool.holder, funext hholds]

theorem Alike.select (n : Data) : s.pool.select n = s'.pool.select n := by
  rw [Pool.select, Pool.select, h.holder n, h.holder Config.free]

/-- The stamp is looked at only in occupied slots, where the two agree. -/
theorem Alike.expired (i : SlotIx) : s.expired i = s'.expired i := by
  obtain ⟨hnote, ht0⟩ := h.slots i
  by_cases hfree : (s.pool.get i).note = 0#7
  · rw [expired_of_free hfree, expired_of_free (hnote ▸ hfree)]
  · rw [State.expired, State.expired, State.age, State.age, ht0 hfree, hnote, h.cfg, h.ticks]

/-! ### The operations keep the relation -/

theorem Alike.emit (a v : Byte) : Alike (s.emit a v) (s'.emit a v) :=
  { h with writes := congrArg (· ++ [(a, v)]) h.writes }

theorem Alike.withFramer {f f' : Framer} (hf : SameFramer f f') : Alike (s.withFramer f) (s'.withFramer f') :=
  { h with framer := hf }

theorem Alike.setSlot (i : SlotIx) (x : Slot) : Alike (s.setSlot i x) (s'.setSlot i x) where
  __ := h
  slots j := by
    rw [State.setSlot_pool, State.setSlot_pool, Pool.get_set, Pool.get_set]
    split
    · exact sameSlot_refl x
    · exact h.slots j

theorem Alike.preamble : Alike s.preamble s'.preamble := by
  rw [State.preamble, State.preamble, ← h.cfg]
  exact h.emit _ _

theorem Alike.releaseSlot (i : SlotIx) : Alike (s.releaseSlot i) (s'.releaseSlot i) := by
  rw [State.releaseSlot, State.releaseSlot, ← h.cfg]
  exact (h.emit _ _).setSlot i _

theorem Alike.programSlot (i : SlotIx) (n : Data) : Alike (s.programSlot i n) (s'.programSlot i n) := by
  simp only [State.programSlot, ← h.cfg, ← h.ticks]
  exact (((h.emit _ _).emit _ _).emit _ _).setSlot i _

theorem Alike.release (n : Data) : Alike (s.release n) (s'.release n) := by
  rw [State.release, State.release, ← h.holder n]
  cases s.pool.holder n with
  | some i => exact h.releaseSlot i
  | none => exact h

theorem Alike.allocate (n v : Data) : Alike (s.allocate n v) (s'.allocate n v) := by
  rw [State.allocate, State.allocate, ← h.select n]
  split
  · exact h.release n
  · cases s.pool.select n with
    | some i => exact h.programSlot i n
    | none => exact h

theorem Alike.dispatch (st : Byte) (n v : Data) : Alike (s.dispatch st n v) (s'.dispatch st n v) := by
  simp only [State.dispatch]
  split_ifs
  · exact h.preamble.emit _ _
  · exact h.preamble.allocate n v
  · exact h.preamble.release n
  · exact h.preamble

/-- The second data byte is dispatched only while the status is valid, and then the two agree on it. -/
theorem Alike.takeSecondData (hvalid : s.framer.stValid = true) (d : Data) :
    Alike (s.takeSecondData d) (s'.takeSecondData d) := by
  obtain ⟨hv, -, hnote, -, hst⟩ := h.framer
  rw [takeSecondData_eq_dispatch, takeSecondData_eq_dispatch, ← hnote, ← hst hvalid]
  exact (h.dispatch _ _ d).withFramer ⟨hv, rfl, rfl, rfl, hst⟩

theorem Alike.frame (b : Byte) : Alike (s.frame b) (s'.frame b) := by
  obtain ⟨hvalid, hcnt, -, hvel, hst⟩ := h.framer
  simp only [State.frame, ← hvalid, ← hcnt]
  split_ifs with hb hidle hzero
  · exact h.withFramer (sameFramer_refl _)
  · exact h
  · exact h.withFramer ⟨hvalid, rfl, rfl, hvel, hst⟩
  · exact h.takeSecondData (eq_true_of_ne_false hidle) _

theorem Alike.sweepSlot (i : SlotIx) : Alike (s.sweepSlot i) (s'.sweepSlot i) := by
  rw [State.sweepSlot, State.sweepSlot, ← h.expired i]
  split
  · exact h.releaseSlot i
  · exact h

theorem Alike.countTick : Alike s.countTick s'.countTick where
  __ := h
  ticks := by rw [State.countTick_ticks, State.countTick_ticks, h.cfg, h.ticks]

theorem Alike.tickEvent : Alike s.tickEvent s'.tickEvent := by
  have hgate : s.countTick.passDue = s'.countTick.passDue := by
    rw [State.passDue, State.passDue, h.countTick.ticks]
  simp only [State.tickEvent, ← hgate]
  split
  · exact ((h.countTick.sweepSlot 0).sweepSlot 1).sweepSlot 2
  · exact h.countTick

theorem Alike.resetEvent : Alike s.resetEvent s'.resetEvent :=
  { h with ticks := rfl, framer := sameFramer_refl _, slots := fun _ => sameSlot_refl _ }

theorem Alike.take (u : Input) : Alike (s.take u) (s'.take u) := by
  cases u with
  | byte b => exact h.frame b
  | idle => exact h.tickEvent
  | reset => exact h.resetEvent

end AlikeStates

/-! ### The statement -/

theorem alike_beginStep {s s' : State} (h : SameToAnObserver s s') : Alike s.beginStep s'.beginStep := by
  obtain ⟨hcfg, hinput, hticks, hframer, hslots⟩ := h
  exact ⟨hcfg, congrArg List.tail hinput, hticks, hframer, hslots, rfl⟩

/-- Settles O48: both steps begin with an empty write list and take the same event, which keeps the two states alike. -/
theorem unobservableStateDoesNotReachTheOutput : Obligations.UnobservableStateDoesNotReachTheOutput := by
  intro s s' h
  have hinput : s.nextInput = s'.nextInput := by rw [State.nextInput, State.nextInput, h.2.1]
  have halike := (alike_beginStep h).take s.nextInput
  refine ⟨_, _, step_eq_stepped s, step_eq_stepped s', ?_⟩
  rw [State.stepped, State.stepped, ← hinput]
  exact ⟨halike.writes, halike.cfg, halike.input, halike.ticks, halike.framer, halike.slots⟩

end Sys2Proof.Machine

/-! The encoding (30_encoding.md sections 1 to 3): an instruction read back from its events and from its word, and the
24-bit words against the match and mask values of the opcode map. -/

namespace Sys2Proof

open Sys2Proof.Machine Sys2Proof.Laws

/-! ### The fields of a byte (30_encoding.md R71) -/

@[simp] theorem opField_statusByte (op : BitVec 3) (ch : BitVec 4) : opField (statusByte op ch) = op := by
  revert op ch
  decide

@[simp] theorem chField_statusByte (op : BitVec 3) (ch : BitVec 4) : chField (statusByte op ch) = ch := by
  revert op ch
  decide

theorem statusByte_opField_chField {b : Byte} (h : isStatus b = true) : statusByte (opField b) (chField b) = b := by
  revert b
  decide

theorem dataByte_dataVal {b : Byte} (h : isStatus b = false) : dataByte (dataVal b) = b := by
  revert b
  decide

/-- A command is told by the bits 6 to 4 of the status byte (30_encoding.md R75). -/
theorem command_statusByte_iff (op op' : BitVec 3) (ch : BitVec 4) :
    command (statusByte op ch) = statusByte op' 0#4 ↔ op = op' := by
  revert op op' ch
  decide

theorem statusByte_eq_stRawWrite_iff (op : BitVec 3) (ch : BitVec 4) :
    statusByte op ch = stRawWrite ↔ op = 0b000#3 ∧ ch = 5#4 := by
  revert op ch
  decide

/-! ### Messages (30_encoding.md R72, R78) -/

/-- The row of a message, told by its fields: the status byte 0x85 first, then the command. -/
theorem decodeMessage_eq (op : BitVec 3) (ch : BitVec 4) (a b : Data) :
    decodeMessage op ch a b =
      if op = 0b000#3 ∧ ch = 5#4 then .rawWrite a b
      else if op = 0b001#3 then .noteOn ch a b
      else if op = 0b000#3 then .noteOff ch a b
      else if op = 0b010#3 then .ignoredA0 ch a b
      else if op = 0b011#3 then .ignoredB0 ch a b
      else if op = 0b100#3 then .ignoredC0 ch a b
      else if op = 0b101#3 then .ignoredD0 ch a b
      else if op = 0b110#3 then .ignoredE0 ch a b
      else .ignoredF0 ch a b := by
  have hcommand := command_statusByte_iff op
  simp only [decodeMessage, statusByte_eq_stRawWrite_iff, ← hcommand _ ch]
  rfl

theorem decode_messageEvents (ph : Phase) (op : BitVec 3) (ch : BitVec 4) (a b : Data) :
    decode ph (messageEvents op ch a b) = .ok (decodeMessage op ch a b) := by
  simp [decode, messageEvents, isStatus_statusByte, isStatus_dataByte, dataVal_dataByte]

theorem decode_statusDataData (ph : Phase) {st b1 b2 : Byte} (hst : isStatus st = true) (hb1 : isStatus b1 = false)
    (hb2 : isStatus b2 = false) : decode ph [.byte st, .byte b1, .byte b2] =
      .ok (decodeMessage (opField st) (chField st) (dataVal b1) (dataVal b2)) := by
  simp [decode, hst, hb1, hb2]

/-- Decoding the events of a well-formed instruction gives it back, in a phase that selects it. -/
theorem decode_encode {i : Instr} {ph : Phase} (hwf : i.wellFormed = true) (hph : phaseSelects ph i = true) :
    decode ph (encode i) = .ok i := by
  cases i with
  | rawWrite | noteOn | ignoredA0 | ignoredB0 | ignoredC0 | ignoredD0 | ignoredE0 | ignoredF0 =>
    simp [encode, decode_messageEvents, decodeMessage_eq]
  | noteOff c n v =>
    have hc : c ≠ 5#4 := by simpa [Instr.wellFormed] using hwf
    simp [encode, decode_messageEvents, decodeMessage_eq, hc]
  | rs a b => simp [encode, decode, isStatus_dataByte, dataVal_dataByte]
  | status o c => simp [encode, decodeEvent, decodeByte, isStatus_statusByte]
  | dataIdle v | data1 v | data2 v =>
    obtain rfl := eq_of_beq hph
    simp [encode, decodeEvent, decodeByte, isStatus_dataByte, dataVal_dataByte]
  | tick => rfl
  | reset => rfl

/-! ### Words -/

theorem wordOfBytes_lt (bs : List Byte) : wordOfBytes bs < 2 ^ (8 * bs.length) := by
  induction bs with
  | nil => simp [wordOfBytes]
  | cons b bs ih =>
    have hb : b.toNat < 2 ^ 8 := b.isLt
    have hsplit : 2 ^ (8 * (bs.length + 1)) = 2 ^ 8 * 2 ^ (8 * bs.length) := by ring
    rw [wordOfBytes, ← Nat.shiftLeft_add_eq_or_of_lt ih, Nat.shiftLeft_eq, List.length_cons, hsplit]
    nlinarith

/-- The last `k` bytes of a word do not depend on what stands above them. -/
theorem bytesOfWord_add (k x w : Nat) : bytesOfWord k (2 ^ (8 * k) * x + w) = bytesOfWord k w := by
  induction k generalizing x with
  | zero => rfl
  | succ k ih =>
    have hsplit : 2 ^ (8 * (k + 1)) * x = 2 ^ (8 * k) * (2 ^ 8 * x) := by ring
    have hbyte : (2 ^ (8 * k) * (2 ^ 8 * x) + w) >>> (8 * k) = 2 ^ 8 * x + w >>> (8 * k) := by
      rw [Nat.shiftRight_eq_div_pow, Nat.shiftRight_eq_div_pow, Nat.mul_add_div (Nat.two_pow_pos _)]
    rw [bytesOfWord, bytesOfWord, hsplit, ih, hbyte]
    congr 1
    apply BitVec.eq_of_toNat_eq
    simp

/-- A run of bytes is read back from its word. -/
theorem bytesOfWord_wordOfBytes (bs : List Byte) : bytesOfWord bs.length (wordOfBytes bs) = bs := by
  induction bs with
  | nil => rfl
  | cons b bs ih =>
    have hlt := wordOfBytes_lt bs
    have hword : wordOfBytes (b :: bs) = 2 ^ (8 * bs.length) * b.toNat + wordOfBytes bs := by
      rw [wordOfBytes, ← Nat.shiftLeft_add_eq_or_of_lt hlt, Nat.shiftLeft_eq, Nat.mul_comm]
    have hbyte : wordOfBytes (b :: bs) >>> (8 * bs.length) = b.toNat := by
      rw [hword, Nat.shiftRight_eq_div_pow, Nat.mul_add_div (Nat.two_pow_pos _), Nat.div_eq_of_lt hlt, Nat.add_zero]
    rw [List.length_cons, bytesOfWord, hbyte, hword, bytesOfWord_add, ih, BitVec.ofNat_toNat, BitVec.setWidth_eq]

/-- Every instruction but RESET stands for the events of its word. -/
theorem eventsOfWord_encodeWord {i : Instr} (h : i ≠ .reset) :
    eventsOfWord (encodeBits i / 8) (encodeWord i) = encode i := by
  have hbytes := bytesOfWord_wordOfBytes (encodeBytes i)
  rw [encodeBits, Nat.mul_div_cancel_left _ (by decide), encodeWord]
  cases i with
  | reset => exact absurd rfl h
  | tick => rfl
  | _ => exact congrArg (List.map Input.byte) hbytes

/-- Settles O6: the word of an instruction, which fits its width, has the events of the instruction. -/
theorem decodeOfEncodeIsIdentity : Obligations.DecodeOfEncodeIsIdentity := by
  intro i ph hwf hph
  refine ⟨decode_encode hwf hph, fun hreset => ?_⟩
  have hwhole : ¬ encodeBits i % 8 ≠ 0 := by simp [encodeBits]
  have hfits : ¬ 2 ^ encodeBits i ≤ encodeWord i := Nat.not_le.2 (wordOfBytes_lt _)
  rw [decodeWord, if_neg hwhole, if_neg hfits, eventsOfWord_encodeWord hreset, decode_encode hwf hph]

/-- Settles O5: each clause is one word, decoded. -/
theorem sampleWordsDecodeToTheirRows : Obligations.SampleWordsDecodeToTheirRows := by
  unfold Obligations.SampleWordsDecodeToTheirRows
  decide

/-! ### The opcode map (30_encoding.md section 3) -/

/-- A word of 24 bits is told by its three bytes. -/
theorem word24_eq_iff (x y : BitVec 24) :
    x = y ↔ x.extractLsb' 16 8 = y.extractLsb' 16 8 ∧ x.extractLsb' 8 8 = y.extractLsb' 8 8 ∧
      x.extractLsb' 0 8 = y.extractLsb' 0 8 := by
  refine ⟨fun h => h ▸ ⟨rfl, rfl, rfl⟩, fun ⟨hhigh, hmid, hlow⟩ => ?_⟩
  have hlt : x.toNat < 2 ^ 24 ∧ y.toNat < 2 ^ 24 := ⟨x.isLt, y.isLt⟩
  apply BitVec.eq_of_toNat_eq
  simp only [← BitVec.toNat_inj, BitVec.extractLsb'_toNat, Nat.shiftRight_eq_div_pow] at hhigh hmid hlow
  omega

/-- A mask compares a word byte by byte. -/
theorem word24_and_eq_iff (w m v : BitVec 24) :
    w &&& m = v ↔ w.extractLsb' 16 8 &&& m.extractLsb' 16 8 = v.extractLsb' 16 8 ∧
      w.extractLsb' 8 8 &&& m.extractLsb' 8 8 = v.extractLsb' 8 8 ∧
      w.extractLsb' 0 8 &&& m.extractLsb' 0 8 = v.extractLsb' 0 8 := by
  simp only [word24_eq_iff (w &&& m), BitVec.extractLsb'_and]

theorem and_0x80_eq_0x80_iff (b : Byte) : b &&& 0x80#8 = 0x80#8 ↔ isStatus b = true := by
  revert b
  decide

theorem and_0x80_eq_zero_iff (b : Byte) : b &&& 0x80#8 = 0x00#8 ↔ isStatus b = false := by
  revert b
  decide

theorem extractLsb'_extractLsb'_zero {w : Nat} (x : BitVec w) (start : Nat) {k n : Nat} (h : k ≤ n) :
    (x.extractLsb' start n).extractLsb' 0 k = x.extractLsb' start k := by
  ext j hj
  have hjn : j < n := Nat.lt_of_lt_of_le hj h
  simp [hjn]

/-- A word of 24 bits is decoded from its three bytes, the leftmost first (30_encoding.md R72). -/
theorem decodeWord_24 (ph : Phase) (w : BitVec 24) :
    decodeWord ph 24 w.toNat =
      decode ph [.byte (w.extractLsb' 16 8), .byte (w.extractLsb' 8 8), .byte (w.extractLsb' 0 8)] := by
  have hfits : ¬ 2 ^ 24 ≤ w.toNat := Nat.not_le.2 w.isLt
  rw [decodeWord, if_neg (by decide), if_neg hfits]
  rfl

/-- Settles O7: bits 23, 15 and 7 say whether the bytes are status, data, data; if they are, the masks leave the status
byte to be compared, which is how the decoder selects the row. -/
theorem messageWordsFollowTheOpcodeMap : Obligations.MessageWordsFollowTheOpcodeMap := by
  intro w d1 d2 c
  have hd1 : dataVal (w.extractLsb' 8 8) = d1 := extractLsb'_extractLsb'_zero w 8 (by decide)
  have hd2 : dataVal (w.extractLsb' 0 8) = d2 := extractLsb'_extractLsb'_zero w 0 (by decide)
  have hc : chField (w.extractLsb' 16 8) = c := extractLsb'_extractLsb'_zero w 16 (by decide)
  have hform : w &&& 0x808080#24 = 0x800000#24 ↔ isStatus (w.extractLsb' 16 8) = true ∧
      isStatus (w.extractLsb' 8 8) = false ∧ isStatus (w.extractLsb' 0 8) = false := by
    rw [word24_and_eq_iff, ← and_0x80_eq_0x80_iff, ← and_0x80_eq_zero_iff, ← and_0x80_eq_zero_iff]
    rfl
  rw [decodeTableWord, decodeWord_24]
  by_cases h : w &&& 0x808080#24 = 0x800000#24
  · obtain ⟨hst, hb1, hb2⟩ := hform.1 h
    have hfields : statusByte (opField (w.extractLsb' 16 8)) c = w.extractLsb' 16 8 := by
      rw [← hc, statusByte_opField_chField hst]
    have hmask1 := (and_0x80_eq_zero_iff _).2 hb1
    have hmask2 := (and_0x80_eq_zero_iff _).2 hb2
    have hraw : w.extractLsb' 16 8 &&& 0xFF#8 = w.extractLsb' 16 8 := BitVec.and_allOnes
    rw [decode_statusDataData _ hst hb1 hb2, if_neg (not_not.2 h), hc, hd1, hd2]
    simp only [decodeMessage, hfields, apply_ite some, word24_and_eq_iff, BitVec.reduceExtractLsb', hmask1, hmask2,
      hraw, and_true]
    rfl
  · rw [if_pos h]
    have hbytes : (!isStatus (w.extractLsb' 16 8) || isStatus (w.extractLsb' 8 8) ||
        isStatus (w.extractLsb' 0 8)) = true := by
      by_contra hno
      exact h (hform.2 (by simpa [and_assoc] using hno))
    simp only [decode, hbytes, if_true]

end Sys2Proof

/-! The messages and the framer's rows, each from what its operation does, and the phase a step leads to. -/

namespace Sys2Proof.Machine

open Sys2Proof.Safety Sys2Proof.Laws

/-! ### Messages with the status latched at the end -/

theorem exec_noteOn_latched (c : BitVec 4) (n v : Data) (s : State) : exec (.noteOn c n v) s =
    .next ((s.preamble.allocate n v).withFramer (latched (statusByte 0b001#3 c))) := by
  rw [exec_noteOn, State.latchStatus, preamble_withFramer, allocate_withFramer]
  rfl

theorem exec_noteOff_latched (c : BitVec 4) (n v : Data) (s : State) : exec (.noteOff c n v) s =
    .next ((s.preamble.release n).withFramer (latched (statusByte 0b000#3 c))) := by
  rw [exec_noteOff, State.latchStatus, preamble_withFramer, release_withFramer]
  rfl

/-! ### Notes -/

theorem selected_zero_iff {p : Pool} {i : SlotIx} : Selected p 0#7 i ↔ FirstHolding p 0#7 i :=
  ⟨fun h => h.elim id And.right, .inl⟩

/-- Settles O13: note 0 is selected and held where a slot is free, by the cases of an allocation and of a release. -/
theorem noteZeroActsOnTheFirstFreeSlot : Obligations.NoteZeroActsOnTheFirstFreeSlot := by
  intro c v w s hv
  obtain ⟨t, ht, ⟨-, halloc⟩, -⟩ := noteOnAllocatesByCase c 0#7 v s
  obtain ⟨hprogram, hdrop⟩ := halloc hv
  obtain ⟨hrelease, hnone⟩ := releaseEffect_release (latchStatus_preamble_emits s (statusByte 0b000#3 c)) rfl 0#7
  refine ⟨t, _, ht, exec_noteOff c 0#7 w s, fun i hi => ?_, fun hfull => ?_⟩
  · obtain ⟨hon, hset⟩ := hprogram i (.inl hi)
    exact ⟨hon, hset, hrelease i hi⟩
  · obtain ⟨hmix, hpool⟩ := hdrop fun i hi => hfull i (selected_zero_iff.1 hi).1
    exact ⟨hmix, hpool, hnone hfull⟩

/-- Settles O17: every message latches its status over a state that the channel does not enter; and an allocation keeps
the holders unique, so that a release of the note from any channel frees the only one. -/
theorem channelNibbleOnlyEntersTheStatus : Obligations.ChannelNibbleOnlyEntersTheStatus := by
  constructor
  · intro c c' x y s same
    have hsame {i j : Instr} {u : State} {st st' : Byte} (hi : exec i s = .next (u.withFramer (latched st)))
        (hj : exec j s = .next (u.withFramer (latched st'))) : same i j := ⟨_, _, hi, hj, rfl⟩
    refine ⟨hsame (exec_noteOn_latched c x y s) (exec_noteOn_latched c' x y s),
      fun _ _ => hsame (exec_noteOff_latched c x y s) (exec_noteOff_latched c' x y s), ?_, ?_, ?_, ?_, ?_, ?_⟩ <;>
    exact hsame (u := s.preamble) rfl rfl
  · intro c c' n v w s t hn huniq h
    have huniq' := (outcome_of_exec h).keeps_uniqueHolder huniq
    have hrelease (st : Byte) : ReleaseEffect t ((t.latchStatus st).preamble.release n) n :=
      releaseEffect_release (latchStatus_preamble_emits t st) rfl n
    refine ⟨⟨_, exec_noteOn c' n 0#7 t, ?_⟩, fun _ => ⟨_, exec_noteOff c' n w t, hrelease _, ?_⟩⟩
    · rw [allocate_zero]
      exact ⟨hrelease _, message_release_leaves_no_holder hn huniq' _⟩
    · exact message_release_leaves_no_holder hn huniq' _

/-- A status byte is its command with the channel joined to it (30_encoding.md R71). -/
theorem statusByte_eq_or (op : BitVec 3) (c : BitVec 4) : statusByte op c = statusByte op 0#4 ||| c.setWidth 8 := by
  revert op c
  decide

/-- Settles O16: each row latches its status byte and writes the preamble. -/
theorem ignoredMessagesEmitOnlyThePreamble : Obligations.IgnoredMessagesEmitOnlyThePreamble := by
  intro c x y s out
  have hout (op : BitVec 3) :
      .next (s.latchStatus (statusByte op c)).preamble = out (statusByte op 0#4) := by
    rw [statusByte_eq_or]
    rfl
  exact ⟨hout 0b010#3, hout 0b011#3, hout 0b100#3, hout 0b101#3, hout 0b110#3, hout 0b111#3⟩

/-- Settles O45: a table entry has 12 bits. -/
theorem periodHighByteFitsFourBits : Obligations.PeriodHighByteFitsFourBits := by
  intro c n
  have hperiod : (c.period n).toNat < 4096 := by
    rw [Cfg.period, BitVec.toNat_setWidth_of_le (by decide)]
    exact BitVec.isLt _
  refine ⟨hperiod, ?_⟩
  rw [periodHigh_eq, BitVec.toNat_ofNat]
  omega

/-! ### The dispatch of a status byte -/

theorem command_eq_cmdNoteOn_iff (st : Byte) : command st = cmdNoteOn ↔ st.toNat / 16 = 9 := by
  revert st
  decide

theorem command_eq_cmdNoteOff_iff (st : Byte) : command st = cmdNoteOff ↔ st.toNat / 16 = 8 := by
  revert st
  decide

section Dispatches

variable {st : Byte} (s : State) (n v : Data)

theorem dispatch_noteOn (h : command st = cmdNoteOn) : s.dispatch st n v = s.preamble.allocate n v := by
  have hraw : st ≠ stRawWrite := by
    rintro rfl
    exact absurd h (by decide)
  simp [State.dispatch, hraw, h]

theorem dispatch_noteOff (hraw : st ≠ stRawWrite) (h : command st = cmdNoteOff) :
    s.dispatch st n v = s.preamble.release n := by
  have hoff : cmdNoteOff ≠ cmdNoteOn := by decide
  simp [State.dispatch, hraw, h, hoff]

theorem dispatch_ignored (hon : command st ≠ cmdNoteOn) (hoff : command st ≠ cmdNoteOff) :
    s.dispatch st n v = s.preamble := by
  have hraw : st ≠ stRawWrite := by
    rintro rfl
    exact absurd hoff (by decide)
  simp [State.dispatch, hraw, hon, hoff]

end Dispatches

/-- Settles O21: the framer takes no part in the dispatch, whose arms are told by the high nibble of the status. -/
theorem secondDataByteDispatchesTheMessage : Obligations.SecondDataByteDispatchesTheMessage := by
  intro v s
  have hmix := preamble_emits s
  obtain ⟨-, hticks, -⟩ := dispatch_frame s s.framer.st s.framer.note v
  have hexec : exec (.data2 v) s = .next (s.takeSecondData v) := rfl
  rw [takeSecondData_eq_dispatch] at hexec
  refine ⟨_, hexec, hticks, rfl, fun hst => ?_, fun hst => ?_, fun hst hraw => ?_, fun hoff hon => ?_⟩
  · have hst : s.framer.st = stRawWrite := hst
    rw [hst, dispatch_stRawWrite]
    exact ⟨emits_trans hmix (emit_emits s.preamble (zext8 s.framer.note) (zext8 v)), rfl⟩
  · rw [dispatch_noteOn s _ v ((command_eq_cmdNoteOn_iff _).2 hst)]
    exact allocateEffect_allocate hmix rfl rfl s.framer.note v
  · rw [dispatch_noteOff s _ v hraw ((command_eq_cmdNoteOff_iff _).2 hst)]
    exact releaseEffect_release hmix rfl s.framer.note
  · rw [dispatch_ignored s _ v (mt (command_eq_cmdNoteOn_iff _).1 hon) (mt (command_eq_cmdNoteOff_iff _).1 hoff)]
    exact ⟨hmix, rfl⟩

/-- A message row is the dispatch of its status byte, which it latches (30_encoding.md R78, 41_dispatcher.md R110). -/
theorem exec_decodeMessage (op : BitVec 3) (ch : BitVec 4) (a b : Data) (s : State) :
    exec (decodeMessage op ch a b) s =
      .next ((s.latchStatus (statusByte op ch)).dispatch (statusByte op ch) a b) := by
  rw [decodeMessage_eq]
  have hnoteOn := command_statusByte_iff op 0b001#3 ch
  have hnoteOff := command_statusByte_iff op 0b000#3 ch
  have hraw := statusByte_eq_stRawWrite_iff op ch
  split_ifs with h5 h1 h0 h2 h3 h4 h5' h6
  · rw [hraw.2 h5, dispatch_stRawWrite]
    rfl
  · rw [dispatch_noteOn _ _ _ (hnoteOn.2 h1), h1]
    rfl
  · rw [dispatch_noteOff _ _ _ (mt hraw.1 h5) (hnoteOff.2 h0), h0]
    rfl
  all_goals rw [dispatch_ignored _ _ _ (mt hnoteOn.1 h1) (mt hnoteOff.1 h0)]
  · rw [h2]; rfl
  · rw [h3]; rfl
  · rw [h4]; rfl
  · rw [h5']; rfl
  · rw [h6]; rfl
  · have h7 : op = 0b111#3 := by bv_omega
    rw [h7]; rfl

/-- Settles O25: the two data bytes are dispatched under the latched status, as the message's own are. -/
theorem runningStatusRepeatsTheLatchedOperation : Obligations.RunningStatusRepeatsTheLatchedOperation := by
  intro op ch a b s hvalid hcnt hst
  have hst : s.framer.st = statusByte op ch := hst
  refine ⟨_, exec_rs a b s, ?_⟩
  rw [exec_decodeMessage, frame_frame_dataByte hvalid hcnt, hst]

/-- Settles O24: the two bytes are taken one after the other, in the phase each finds. -/
theorem runningStatusBytesByPhase : Obligations.RunningStatusBytesByPhase := by
  intro a b s
  rw [exec_rs]
  refine ⟨fun h => ?_, fun h => ⟨_, _, rfl, rfl, ?_⟩, fun h => ⟨_, _, rfl, rfl, ?_⟩⟩
  · rw [frame_dataBytes_of_idle h]
  · rw [frame_dataBytes_of_awaiting0 h]
  · rw [frame_dataBytes_of_awaiting1 h]

/-! ### Data bytes and the phase -/

theorem isStatus_eq_false_iff_lt (b : Byte) : isStatus b = false ↔ b.toNat < 0x80 := by
  rw [← Bool.not_eq_true, isStatus_iff_le, Nat.not_le]

/-- A valid status stays valid until a reset (10_state.md R36). -/
theorem take_stValid {s : State} {u : Input} (hvalid : s.framer.stValid = true) (hu : u ≠ .reset) :
    (s.take u).framer.stValid = true := by
  cases u with
  | byte b =>
    change (s.frame b).framer.stValid = true
    rcases frame_cases s b with ⟨-, h⟩ | ⟨-, -, h⟩ | ⟨-, -, -, h⟩ | ⟨-, -, -, h⟩ <;> rw [h]
    · rfl
    · exact hvalid
    · exact hvalid
    · rw [takeSecondData_framer]
      exact hvalid
  | idle =>
    obtain ⟨hframer, -⟩ := tickEvent_spec s
    change s.tickEvent.framer.stValid = true
    rw [hframer, hvalid]
  | reset => exact absurd rfl hu

/-- Settles O19: the row does nothing, the step takes the byte and does nothing else, and only a reset ends the validity
of the status. -/
theorem dataByteInIdleIsDropped : Obligations.DataByteInIdleIsDropped := by
  refine ⟨fun v s => rfl, fun s b rest h hb hvalid => ?_, fun s t hvalid hreset h => ?_⟩
  · have hphase : State.phase { s with input := rest, writes := [] } = .idle := phase_eq_idle.2 hvalid
    rw [step_byte h, frame_data_of_idle ((isStatus_eq_false_iff_lt b).2 hb) hphase, State.endStep_of_writes_nil rfl]
  · obtain rfl := eq_stepped_of_step h
    exact take_stValid (s := s.beginStep) hvalid hreset

/-- Settles O20: the row stores and counts, and the step does the same. -/
theorem firstDataByteIsStored : Obligations.FirstDataByteIsStored := by
  refine ⟨fun v s => rfl, fun s b rest h hb hvalid hcnt => ?_⟩
  have hphase : State.phase { s with input := rest, writes := [] } = .awaiting0 := phase_eq_awaiting0.2 ⟨hvalid, hcnt⟩
  rw [step_byte h, frame_data_of_awaiting0 ((isStatus_eq_false_iff_lt b).2 hb) hphase,
    State.endStep_of_writes_nil rfl, dataVal_eq_ofNat]
  rfl

/-- Settles O23: by the kind of the byte and by the phase it finds; `Idle` is left exactly when the status is valid. -/
theorem phaseFollowsTheTransitionTable : Obligations.PhaseFollowsTheTransitionTable := by
  refine ⟨fun s b rest h => ⟨_, step_byte h, ?_⟩, fun s h => ⟨_, step_eq_stepped s, ?_⟩, fun s t hu hphase h => ?_⟩
  · let s0 : State := { s with input := rest, writes := [] }
    change (s0.frame b).phase = _
    by_cases hb : 0x80 ≤ b.toNat
    · rw [if_pos hb, State.frame_of_isStatus s0 ((isStatus_iff_le b).2 hb), latchStatus_phase]
    · have hdata : isStatus b = false := (isStatus_eq_false_iff_lt b).2 (Nat.not_le.1 hb)
      rw [if_neg hb]
      cases hphase : s.phase with
      | idle => rw [frame_data_of_idle (s := s0) hdata hphase]; exact hphase
      | awaiting0 => rw [frame_data_of_awaiting0 (s := s0) hdata hphase]; exact takeFirstData_phase (s := s0) _ hphase
      | awaiting1 => rw [frame_data_of_awaiting1 (s := s0) hdata hphase]; exact takeSecondData_phase (s := s0) _ hphase
  · rw [State.phase, State.phase, stepped_framer_of_idle h]
  · obtain rfl := eq_stepped_of_step h
    have hvalid : s.framer.stValid = true := eq_true_of_ne_false (mt phase_eq_idle.2 hphase)
    have hreset : s.nextInput ≠ .reset := by
      rcases hu with hu | ⟨b, hu⟩ <;> rw [hu] <;> nofun
    have hstays : s.stepped.framer.stValid = true := take_stValid (s := s.beginStep) hvalid hreset
    exact fun hidle => absurd hstays (ne_true_of_eq_false (phase_eq_idle.1 hidle))

/-! ### Reset -/

/-- Settles O32: the event writes nothing, and the registers are those of the reset state. -/
theorem resetEventClearsEveryRegister : Obligations.ResetEventClearsEveryRegister := by
  refine ⟨fun s => rfl, fun s rest h => ⟨_, step_eq_stepped s, ?_⟩⟩
  have hreset : s.nextInput = .reset := by rw [State.nextInput, h]
  rw [State.stepped, hreset]
  exact ⟨rfl, rfl, rfl, rfl⟩

/-- Settles O33: by the definition of the reset state. -/
theorem resetStateHasEveryRegisterZero : Obligations.ResetStateHasEveryRegisterZero :=
  ⟨rfl, Pool.reset_get, rfl, rfl⟩

/-! ### The shape of write lists -/

/-- A dispatch writes the preamble first, and at most three pairs after it (41_dispatcher.md R120). -/
theorem DispatchOutcome.writes_shape {s u : State} {st : Byte} (h : DispatchOutcome s.preamble st u)
    (hs : s.writes = []) : u.writes.length ≤ 4 ∧ u.writes.head? = some (mix s.cfg) := by
  obtain ⟨ws, ⟨-, -, -, hwrites, -⟩, hlen, -⟩ := h.emits
  have hu : u.writes = mix s.cfg :: ws := by rw [hwrites, State.preamble_writes, hs]; rfl
  rw [hu]
  exact ⟨Nat.succ_le_succ hlen, rfl⟩

theorem exec_writeShape {i : Instr} {s t : State} (hs : s.writes = []) (h : exec i s = .next t) :
    WriteShape i s t.writes := by
  cases i with
  | rawWrite a d =>
    cases h
    exact DispatchOutcome.writes_shape (s := s.latchStatus stRawWrite) (.raw a d rfl) hs
  | noteOn c n v =>
    obtain rfl := Host.Outcome.next.inj (h.symm.trans (exec_noteOn_latched c n v s))
    exact (allocate_outcome s.preamble (statusByte 0b001#3 c) n v).writes_shape hs
  | noteOff c n v =>
    obtain rfl := Host.Outcome.next.inj (h.symm.trans (exec_noteOff_latched c n v s))
    exact (release_outcome s.preamble (statusByte 0b000#3 c) n).writes_shape hs
  | ignoredA0 | ignoredB0 | ignoredC0 | ignoredD0 | ignoredE0 | ignoredF0 =>
    cases h
    exact DispatchOutcome.writes_shape (s := s.latchStatus _) (st := stRawWrite) .nothing hs
  | rs a b =>
    obtain rfl := Host.Outcome.next.inj (h.symm.trans (exec_rs a b s))
    cases hphase : s.phase with
    | idle =>
      rw [frame_dataBytes_of_idle hphase, WriteShape, hs]
      exact ⟨by simp, fun _ => rfl, fun hne => absurd hphase hne⟩
    | awaiting0 =>
      rw [frame_dataBytes_of_awaiting0 hphase, takeSecondData_eq_dispatch, State.takeFirstData, dispatch_withFramer]
      obtain ⟨hlen, hhead⟩ := (dispatch_outcome s s.framer.st a b).writes_shape hs
      exact ⟨hlen, fun hidle => absurd (hphase.symm.trans hidle) (by decide), fun _ => hhead⟩
    | awaiting1 =>
      rw [frame_dataBytes_of_awaiting1 hphase, takeSecondData_eq_dispatch]
      obtain ⟨hlen, hhead⟩ := (dispatch_outcome s s.framer.st s.framer.note a).writes_shape hs
      exact ⟨hlen, fun hidle => absurd (hphase.symm.trans hidle) (by decide), fun _ => hhead⟩
  | data2 v =>
    cases h
    rw [takeSecondData_eq_dispatch]
    exact (dispatch_outcome s s.framer.st s.framer.note v).writes_shape hs
  | tick =>
    cases h
    obtain ⟨l, hlen, -, -, -, hwrites, -⟩ := tickEvent_emits s
    rw [hwrites, hs, List.nil_append]
    refine ⟨by rwa [List.length_map], fun p hp => ?_⟩
    obtain ⟨j, -, rfl⟩ := List.mem_map.1 hp
    exact ⟨j, rfl⟩
  | status | dataIdle | data1 | reset =>
    cases h
    exact hs

/-- Settles O41: row by row, and a step is the fetched row from an empty write list. -/
theorem writeListsHaveTheirShape : Obligations.WriteListsHaveTheirShape := by
  refine ⟨fun i s t hs h => exec_writeShape hs h, fun s t h => ?_⟩
  obtain ⟨u, hexec, rfl⟩ := exec_of_step h
  have hshape : WriteShape s.fetch s.beginStep u.writes := exec_writeShape rfl hexec
  exact hshape

end Sys2Proof.Machine

/-! Messages as their bytes, one byte a step (30_encoding.md R72, R73, R86, 40_step_and_framer.md R91): a byte that does
not complete a message only moves the framer, so the steps before the last can be told without the rest of the state. -/

namespace Sys2Proof.Machine

open Sys2Proof.Safety Sys2Proof.Laws

/-! ### Runs of single steps -/

@[simp] theorem run_zero (s : State) : run 0 s = .next s := rfl

theorem run_succ_of_step {s t : State} (h : step s = .next t) (k : Nat) : run (k + 1) s = run k t := by
  have hcore : Sys2Proof.core.step s = .next t := h
  simp only [run, Host.Core.run, hcore]
  rfl

theorem step_status {s : State} {b : Byte} {rest : List Input} (h : s.input = .byte b :: rest)
    (hb : isStatus b = true) : step s = .next (State.latchStatus { s with input := rest, writes := [] } b) := by
  rw [step_byte h, State.frame_of_isStatus _ hb, State.endStep_of_writes_nil rfl]

theorem step_data_of_idle {s : State} {b : Byte} {rest : List Input} (h : s.input = .byte b :: rest)
    (hb : isStatus b = false) (hphase : s.phase = .idle) : step s = .next { s with input := rest, writes := [] } := by
  let s0 : State := { s with input := rest, writes := [] }
  have hphase : s0.phase = .idle := hphase
  rw [step_byte h, frame_data_of_idle hb hphase, State.endStep_of_writes_nil rfl]

theorem step_data_of_awaiting0 {s : State} {b : Byte} {rest : List Input} (h : s.input = .byte b :: rest)
    (hb : isStatus b = false) (hphase : s.phase = .awaiting0) :
    step s = .next (State.takeFirstData { s with input := rest, writes := [] } (dataVal b)) := by
  let s0 : State := { s with input := rest, writes := [] }
  have hphase : s0.phase = .awaiting0 := hphase
  rw [step_byte h, frame_data_of_awaiting0 hb hphase, State.endStep_of_writes_nil rfl]

theorem step_data_of_awaiting1 {s : State} {b : Byte} {rest : List Input} (h : s.input = .byte b :: rest)
    (hb : isStatus b = false) (hphase : s.phase = .awaiting1) :
    step s = .next (State.takeSecondData { s with input := rest, writes := [] } (dataVal b)).endStep := by
  let s0 : State := { s with input := rest, writes := [] }
  have hphase : s0.phase = .awaiting1 := hphase
  rw [step_byte h, frame_data_of_awaiting1 hb hphase]

/-- Settles O26: the first data byte is only stored, and the second status byte clears it. -/
theorem partialMessageIsDiscarded : Obligations.PartialMessageIsDiscarded := by
  intro s b1 b2 b3 rest h h1 h2 h3
  rw [run_succ_of_step (step_status h h1), run_succ_of_step (step_data_of_awaiting0 rfl h2 rfl),
    run_succ_of_step (step_status rfl h3)]
  rfl

/-! ### Full messages -/

/-- Two data bytes after a status byte are the dispatch of the message (40_step_and_framer.md R95, R97, R98). -/
theorem latchStatus_takeData (s : State) (st : Byte) (a b : Data) :
    ((s.latchStatus st).takeFirstData a).takeSecondData b = (s.latchStatus st).dispatch st a b := by
  rw [← frame_dataBytes_of_awaiting0 (latchStatus_phase s st), frame_frame_dataByte rfl rfl]
  rfl

/-- An instruction of 24 bits is a full message, and the row its bytes select. -/
theorem exists_message_of_encodeBits {i : Instr} (hwf : i.wellFormed = true) (hbits : encodeBits i = 24) :
    ∃ op ch a b, encode i = messageEvents op ch a b ∧ decodeMessage op ch a b = i := by
  have hmessage {op : BitVec 3} {ch : BitVec 4} {a b : Data} (henc : encode i = messageEvents op ch a b)
      (hph : phaseSelects .idle i = true) : ∃ op ch a b, encode i = messageEvents op ch a b ∧
        decodeMessage op ch a b = i := by
    have hdec := decode_encode hwf hph
    rw [henc, decode_messageEvents] at hdec
    exact ⟨op, ch, a, b, henc, Except.ok.inj hdec⟩
  cases i with
  | rawWrite | noteOn | noteOff | ignoredA0 | ignoredB0 | ignoredC0 | ignoredD0 | ignoredE0 | ignoredF0 =>
    exact hmessage rfl rfl
  | rs | status | dataIdle | data1 | data2 | tick | reset => cases hbits

/-- Settles O46: the first two bytes only move the framer, and the third dispatches the message. -/
theorem messageUnitEqualsItsThreeByteSteps : Obligations.MessageUnitEqualsItsThreeByteSteps := by
  intro i s rest hwf hbits hinput
  obtain ⟨op, ch, a, b, henc, rfl⟩ := exists_message_of_encodeBits hwf hbits
  rw [henc] at hinput
  refine ⟨_, exec_decodeMessage op ch a b _, ?_⟩
  rw [run_succ_of_step (step_status hinput (isStatus_statusByte op ch)),
    run_succ_of_step (step_data_of_awaiting0 rfl (isStatus_dataByte a) rfl),
    run_succ_of_step (step_data_of_awaiting1 rfl (isStatus_dataByte b) rfl), run_zero, dataVal_dataByte,
    dataVal_dataByte, ← latchStatus_takeData]
  rfl

/-! ### Continuations -/

/-- The block does not look at the input beyond the event it takes. -/
theorem release_with_input (s : State) (us : List Input) (n : Data) :
    State.release { s with input := us } n = { s.release n with input := us } := by
  unfold State.release
  cases s.pool.holder n with
  | some i => rfl
  | none => rfl

theorem allocate_with_input (s : State) (us : List Input) (n v : Data) :
    State.allocate { s with input := us } n v = { s.allocate n v with input := us } := by
  unfold State.allocate
  split
  · exact release_with_input s us n
  · cases s.pool.select n with
    | some i => rfl
    | none => rfl

theorem dispatch_with_input (s : State) (us : List Input) (st : Byte) (n v : Data) :
    State.dispatch { s with input := us } st n v = { s.dispatch st n v with input := us } := by
  rcases dispatch_cases s st n v with ⟨rfl, h⟩ | ⟨-, hcmd, h⟩ | ⟨hraw, hcmd, h⟩ | ⟨-, hon, hoff, h⟩ <;> rw [h]
  · exact dispatch_stRawWrite _ n v
  · rw [dispatch_noteOn _ n v hcmd]
    exact allocate_with_input s.preamble us n v
  · rw [dispatch_noteOff _ n v hraw hcmd]
    exact release_with_input s.preamble us n
  · exact dispatch_ignored _ n v hon hoff

theorem takeSecondData_with_input (s : State) (us : List Input) (d : Data) :
    State.takeSecondData { s with input := us } d = { s.takeSecondData d with input := us } := by
  rw [takeSecondData_eq_dispatch, takeSecondData_eq_dispatch, dispatch_with_input]
  rfl

theorem takeSecondData_input (s : State) (d : Data) : (s.takeSecondData d).input = s.input := by
  obtain ⟨-, -, -, hinput, -⟩ := dispatch_frame s s.framer.st s.framer.note d
  rw [takeSecondData_eq_dispatch, State.withFramer_input, hinput]

/-- Settles O47: by the phase the first byte finds; where it completes a message, that step hands over the writes. -/
theorem runningStatusUnitEqualsItsTwoByteSteps : Obligations.RunningStatusUnitEqualsItsTwoByteSteps := by
  intro a b s rest hinput
  have ha := isStatus_dataByte a
  have hb := isStatus_dataByte b
  have hinput : s.input = .byte (dataByte a) :: .byte (dataByte b) :: rest := hinput
  -- the state as the instruction finds it, and as the first step leaves it to the framer
  let s0 : State := { s with input := rest, writes := [] }
  let s1 : State := { s with input := .byte (dataByte b) :: rest, writes := [] }
  have hexec := exec_rs a b s0
  cases hphase : s.phase with
  | idle =>
    have hfirst := step_data_of_idle hinput ha hphase
    have hsecond := step_data_of_idle (s := s1) rfl hb hphase
    rw [frame_dataBytes_of_idle (s := s0) hphase] at hexec
    refine ⟨_, _, hexec, (run_succ_of_step hfirst 1).trans (run_succ_of_step hsecond 0), ?_⟩
    exact congrArg (fun tr => { s0 with trace := tr }) (List.append_nil s.trace)
  | awaiting0 =>
    have hfirst := step_data_of_awaiting0 hinput ha hphase
    have hsecond := step_data_of_awaiting1 (s := s1.takeFirstData a) rfl hb (takeFirstData_phase (s := s1) a hphase)
    rw [frame_dataBytes_of_awaiting0 (s := s0) hphase] at hexec
    rw [dataVal_dataByte] at hfirst hsecond
    exact ⟨_, _, hexec, (run_succ_of_step hfirst 1).trans (run_succ_of_step hsecond 0), rfl⟩
  | awaiting1 =>
    have hfirst := step_data_of_awaiting1 hinput ha hphase
    have hsecond := step_data_of_awaiting0 (s := (s1.takeSecondData a).endStep) (takeSecondData_input s1 a) hb
      (takeSecondData_phase (s := s1) a hphase)
    rw [frame_dataBytes_of_awaiting1 (s := s0) hphase] at hexec
    rw [dataVal_dataByte] at hfirst hsecond
    refine ⟨_, _, hexec, (run_succ_of_step hfirst 1).trans (run_succ_of_step hsecond 0), ?_⟩
    have hinput0 : s0.takeSecondData a = { s1.takeSecondData a with input := rest } :=
      takeSecondData_with_input s1 rest a
    rw [hinput0]
    rfl

/-! ### Placed words (log 4, log 7) -/

theorem step_present (s : State) (u : Input) :
    step (s.present [u]) = .next (State.take { s with writes := [] } u).endStep :=
  step_eq_stepped (s.present [u])

/-- A byte that completes no message writes nothing, so it does not matter when the write list is emptied. -/
theorem frame_with_writes {s : State} {b : Byte} (h : s.completes b = false) (ws : List Write) :
    State.frame { s with writes := ws } b = { s.frame b with writes := ws } := by
  have hcases : isStatus b = true ∨ s.phase = .idle ∨ s.phase = .awaiting0 := by
    cases hphase : s.phase <;> simp_all [State.completes]
  cases hb : isStatus b with
  | true =>
    rw [State.frame_of_isStatus _ hb, State.frame_of_isStatus _ hb]
    rfl
  | false =>
    let s' : State := { s with writes := ws }
    rcases hcases with hst | hphase | hphase
    · exact absurd hst (ne_true_of_eq_false hb)
    · rw [frame_data_of_idle hb hphase, frame_data_of_idle (s := s') hb hphase]
    · rw [frame_data_of_awaiting0 hb hphase, frame_data_of_awaiting0 (s := s') hb hphase]
      rfl

theorem completes_of_isStatus (s : State) {b : Byte} (h : isStatus b = true) : s.completes b = false := by
  simp [State.completes, h]

theorem completes_of_phase_ne {s : State} (h : s.phase ≠ .awaiting1) (b : Byte) : s.completes b = false := by
  simp [State.completes, h]

theorem placeEvents_cons {s : State} {b : Byte} (h : s.completes b = false) (u : Input) (us : List Input) :
    s.placeEvents (.byte b :: u :: us) = (s.frame b).placeEvents (u :: us) := by
  simp [State.placeEvents, h]

/-- A run of events that is an instruction is completed by the very next step, with the effect of the instruction; a
continuation must find no message pending. -/
theorem step_placeEvents {s : State} {us : List Input} {i : Instr} (h : decode s.phase us = .ok i)
    (hrs : s.phase = .awaiting1 → ∀ a b, i ≠ .rs a b) : ∃ t, exec i { s with writes := [] } = .next t ∧
      step (s.placeEvents us) = .next t.endStep := by
  let s0 : State := { s with writes := [] }
  unfold decode at h
  split at h
  next u =>
    obtain rfl := Except.ok.inj h
    exact ⟨_, exec_decodeEvent s0 u, step_present s u⟩
  next b1 b2 =>
    split at h
    · cases h
    rename_i hdata
    obtain ⟨hb1, hb2⟩ : isStatus b1 = false ∧ isStatus b2 = false := by simpa using hdata
    obtain rfl := Except.ok.inj h
    have hphase : s.phase ≠ .awaiting1 := fun hphase => hrs hphase _ _ rfl
    have hfirst := completes_of_phase_ne hphase b1
    refine ⟨_, exec_rs _ _ s0, ?_⟩
    have hclear : s0.frame b1 = { s.frame b1 with writes := [] } := frame_with_writes hfirst []
    rw [dataByte_dataVal hb1, dataByte_dataVal hb2, placeEvents_cons hfirst, hclear]
    exact step_present (s.frame b1) (.byte b2)
  next st b1 b2 =>
    split at h
    · cases h
    rename_i hform
    obtain ⟨hst, hb1, hb2⟩ : isStatus st = true ∧ isStatus b1 = false ∧ isStatus b2 = false := by
      simpa [and_assoc] using hform
    obtain rfl := Except.ok.inj h
    have hfirst := completes_of_isStatus s hst
    have hlatched : (s.latchStatus st).phase = .awaiting0 := latchStatus_phase s st
    have hsecond := completes_of_phase_ne (s := s.latchStatus st) (by rw [hlatched]; decide) b1
    refine ⟨_, exec_decodeMessage _ _ _ _ s0, ?_⟩
    rw [statusByte_opField_chField hst, ← latchStatus_takeData, placeEvents_cons hfirst, State.frame_of_isStatus s hst,
      placeEvents_cons hsecond, frame_data_of_awaiting0 hb1 hlatched,
      ← frame_data_of_awaiting1 hb2 (takeFirstData_phase _ (latchStatus_phase s0 st))]
    exact step_present _ (.byte b2)
  next => cases h

/-- Settles O1: a step is exec of the row its event selects, and a placed word is a run of events that the next step
completes. -/
theorem stepRunsTheDecodedInstruction : Obligations.StepRunsTheDecodedInstruction := by
  refine ⟨fun s t u rest hinput hexec => ?_, fun s t hinput hexec => ?_, fun s t nbits w i hword hrs hexec => ?_⟩
  · refine step_of_exec ?_
    have hfetch : s.fetch = decodeEvent s.phase u := by rw [State.fetch, State.nextInput, hinput]
    rw [hfetch, State.beginStep_of_input hinput, hexec]
  · refine step_of_exec ?_
    have hfetch : s.fetch = .tick := by rw [State.fetch, State.nextInput, hinput]; rfl
    have hbegin : s.beginStep = { s with writes := [] } := by simp [State.beginStep, hinput]
    rw [hfetch, hbegin, hexec]
  · have hplace : s.withFetchWord nbits w = s.placeEvents (eventsOfWord (nbits / 8) w) := by
      simp only [State.withFetchWord, State.placeWord, hword]
    have hdecode : decode s.phase (eventsOfWord (nbits / 8) w) = .ok i := by
      unfold decodeWord at hword
      split_ifs at hword
      exact hword
    obtain ⟨u, hu, hstep⟩ := step_placeEvents hdecode hrs
    obtain rfl := Host.Outcome.next.inj (hexec.symm.trans hu)
    rw [hplace, hstep]
    rfl

end Sys2Proof.Machine

/-! Runs against the clock (43_watchdog.md R152, R161): how far `IDLE` events move the counter along a run, that a pass
falls among any 1000 of them, and what becomes of a slot that nothing touches. -/

namespace Sys2Proof.Machine

open Sys2Proof.Safety

/-! ### A run as an iteration -/

theorem run_eq_iterate (k : Nat) (s : State) : run k s = .next (State.stepped^[k] s) := by
  induction k generalizing s with
  | zero => rfl
  | succ k ih => rw [run_succ_of_step (step_eq_stepped s), ih, Function.iterate_succ_apply]

theorem iterate_cfg (k : Nat) (s : State) : (State.stepped^[k] s).cfg = s.cfg := by
  induction k with
  | zero => rfl
  | succ k ih => rw [Function.iterate_succ_apply', step_keeps_cfg (step_eq_stepped _), ih]

theorem iterate_input (k : Nat) (s : State) : (State.stepped^[k] s).input = s.input.drop k := by
  induction k with
  | zero => rfl
  | succ k ih => rw [Function.iterate_succ_apply', stepped_input, ih, List.tail_drop]

theorem nextInput_eq_getD (s : State) : s.nextInput = s.input.head?.getD .idle := by
  unfold State.nextInput
  cases s.input <;> rfl

/-- The event of step `k` is the next of the coming ones. -/
theorem coming_succ (s : State) (k : Nat) :
    coming s (k + 1) = coming s k ++ [(State.stepped^[k] s).nextInput] := by
  rw [nextInput_eq_getD, iterate_input, List.head?_drop, coming, coming]
  rcases Nat.lt_or_ge k s.input.length with h | h
  · have hnow : k - s.input.length = 0 := Nat.sub_eq_zero_of_le h.le
    have hnext : k + 1 - s.input.length = 0 := Nat.sub_eq_zero_of_le h
    rw [hnow, hnext, List.take_add_one, List.getElem?_eq_getElem h]
    simp
  · rw [List.take_of_length_le h, List.take_of_length_le (h.trans k.le_succ), List.getElem?_eq_none h,
      Nat.succ_sub h, List.replicate_succ', ← List.append_assoc]
    rfl

theorem nextInput_mem_coming {s : State} {k N : Nat} (h : k < N) :
    (State.stepped^[k] s).nextInput ∈ coming s N := by
  induction N with
  | zero => exact absurd h k.not_lt_zero
  | succ N ih =>
    rw [coming_succ, List.mem_append]
    rcases Nat.lt_succ_iff_lt_or_eq.1 h with h | rfl
    · exact .inl (ih h)
    · exact .inr (List.mem_singleton_self _)

/-! ### Counting the `IDLE` events -/

/-- The number of `IDLE` steps among the next `k`. -/
def idles (s : State) (k : Nat) : Nat := (coming s k).count .idle

theorem idles_zero (s : State) : idles s 0 = 0 := by simp [idles, coming]

theorem idles_succ (s : State) (k : Nat) :
    idles s (k + 1) = idles s k + if (State.stepped^[k] s).nextInput = .idle then 1 else 0 := by
  rw [idles, coming_succ, List.count_append, List.count_singleton]
  simp [idles]

theorem idles_mono (s : State) : Monotone (idles s) :=
  monotone_nat_of_le_succ fun k => by
    rw [idles_succ]
    exact Nat.le_add_right _ _

/-- The `m`-th `IDLE` step of a run that has as many. -/
theorem exists_idle_step {s : State} {m N : Nat} (hpos : 0 < m) (hm : m ≤ idles s N) :
    ∃ q < N, (State.stepped^[q] s).nextInput = .idle ∧ idles s (q + 1) = m := by
  induction N with
  | zero =>
    rw [idles_zero] at hm
    omega
  | succ N ih =>
    rcases Nat.lt_or_ge (idles s N) m with hlt | hle
    · rw [idles_succ] at hm
      by_cases hidle : (State.stepped^[N] s).nextInput = .idle
      · rw [if_pos hidle] at hm
        exact ⟨N, N.lt_succ_self, hidle, by rw [idles_succ, if_pos hidle]; omega⟩
      · rw [if_neg hidle] at hm
        omega
    · obtain ⟨q, hq, h⟩ := ih hle
      exact ⟨q, hq.trans N.lt_succ_self, h⟩

/-- Without a reset the counter has moved by the number of `IDLE` steps, modulo its range. -/
theorem iterate_ticks_mod {s : State} {k : Nat} (hreset : Input.reset ∉ coming s k) :
    (State.stepped^[k] s).ticks % 2 ^ s.cfg.tickW = (s.ticks + idles s k) % 2 ^ s.cfg.tickW := by
  induction k with
  | zero => rw [idles_zero]; rfl
  | succ k ih =>
    rw [coming_succ, List.mem_append, not_or, List.mem_singleton] at hreset
    obtain ⟨hbefore, hlast⟩ := hreset
    rw [Function.iterate_succ_apply', idles_succ]
    cases hu : (State.stepped^[k] s).nextInput with
    | byte b => simpa [stepped_ticks_of_byte hu] using ih hbefore
    | idle =>
      rw [stepped_ticks_of_idle hu, iterate_cfg, if_pos rfl, Nat.mod_mod, Nat.add_mod, ih hbefore, ← Nat.add_mod,
        Nat.add_assoc]
    | reset => exact absurd hu.symm hlast

theorem coming_subset {s : State} {k N : Nat} (h : k ≤ N) : coming s k ⊆ coming s N := by
  induction N, h using Nat.le_induction with
  | base => exact List.Subset.refl _
  | succ N _ ih =>
    rw [coming_succ]
    exact List.subset_append_of_subset_left _ ih

/-- An `IDLE` step leaves the counter reduced. -/
theorem ticks_of_idle_step {s : State} {k N : Nat} (hreset : Input.reset ∉ coming s N) (hk : k < N)
    (hidle : (State.stepped^[k] s).nextInput = .idle) :
    (State.stepped^[k + 1] s).ticks = (s.ticks + idles s (k + 1)) % 2 ^ s.cfg.tickW := by
  rw [← iterate_ticks_mod fun h => hreset (coming_subset hk h), Function.iterate_succ_apply',
    stepped_ticks_of_idle hidle, iterate_cfg, Nat.mod_mod]

/-! ### The gate -/

theorem eight_thousand_lt_range (c : Cfg) : 8000 < 2 ^ c.tickW :=
  Nat.lt_of_lt_of_le (by decide) (Nat.pow_le_pow_right (by decide) (Nat.le_add_right 13 c.tickExtra) : 2 ^ 13 ≤ _)

/-- Among 1000 consecutive counts one is a multiple of 1000: before the wrap, or the wrap to 0 itself. -/
theorem exists_count_at_gate (c : Cfg) (b : Nat) :
    ∃ j, 1 ≤ j ∧ j ≤ 1000 ∧ (b + j) % 2 ^ c.tickW % 1000 = 0 := by
  have hrange := eight_thousand_lt_range c
  generalize 2 ^ c.tickW = M at hrange ⊢
  have hb : b % M < M := Nat.mod_lt _ (by omega)
  have hmod (j : Nat) : (b + j) % M = (b % M + j) % M := (Nat.mod_add_mod b M j).symm
  by_cases hwrap : b % M + 1000 < M
  · refine ⟨1000 - b % M % 1000, by omega, by omega, ?_⟩
    have hlt : b % M + (1000 - b % M % 1000) < M := by omega
    rw [hmod, Nat.mod_eq_of_lt hlt]
    omega
  · refine ⟨M - b % M, by omega, by omega, ?_⟩
    rw [hmod, Nat.add_sub_cancel' hb.le, Nat.mod_self]

/-- An `IDLE` step that ends at the gate is a pass (43_watchdog.md R154 to R160). -/
theorem passEffect_of_gate {x : State} (hidle : x.nextInput = .idle) (hgate : x.stepped.ticks % 1000 = 0) :
    PassEffect x x.stepped x.stepped.writes := by
  obtain ⟨-, -, -, hpass⟩ := tickEvent_spec x.beginStep
  rw [stepped_of_idle hidle] at hgate ⊢
  obtain ⟨⟨-, -, -, hwrites, -⟩, hslots⟩ := hpass hgate
  exact ⟨hwrites, hslots⟩

/-- Settles O30: one of the 1000 counts is at the gate. -/
theorem thousandIdleStepsHoldAPass : Obligations.ThousandIdleStepsHoldAPass := by
  intro s hcoming
  have hcount : idles s 1000 = 1000 := by rw [idles, hcoming, List.count_replicate_self]
  have hreset : Input.reset ∉ coming s 1000 := by
    rw [hcoming, List.mem_replicate]
    exact fun ⟨_, h⟩ => nomatch h
  obtain ⟨j, hpos, hle, hgate⟩ := exists_count_at_gate s.cfg s.ticks
  obtain ⟨k, hk, hidle, hj⟩ := exists_idle_step hpos (hle.trans hcount.ge)
  have hticks := ticks_of_idle_step hreset hk hidle
  rw [Function.iterate_succ_apply'] at hticks
  rw [← hj, ← hticks] at hgate
  exact ⟨k, _, _, hk, run_eq_iterate k s, step_eq_stepped _, hgate, passEffect_of_gate hidle hgate⟩

/-! ### A hung note -/

/-- The age of a slot stamped `a` after `m` counts. -/
theorem ageAt_add (w a m : Nat) : ageAt w ((a + m) % 2 ^ w) a = m % 2 ^ w := by
  have hage : ((((a + m) % 2 ^ w : Nat) : Int) - a) % (2 ^ w : Int) = ((m % 2 ^ w : Nat) : Int) := by
    push_cast
    rw [Int.emod_sub_emod, add_sub_cancel_left]
  rw [ageAt, hage, Int.toNat_natCast]

/-- A step leaves an occupied slot alone, clears it, or stamps it anew under the same note (42_voice_pool.md R145). -/
theorem stepped_occupied_slot {x : State} {i : SlotIx} (hnote : (x.pool.get i).note ≠ 0#7) :
    x.stepped.pool.get i = x.pool.get i ∨ x.stepped.pool.get i = Slot.cleared ∨
      x.stepped.pool.get i = { note := (x.pool.get i).note, t0 := x.ticks } :=
  (take_outcome x.beginStep x.nextInput).occupied_slot (s := x.beginStep) hnote

/-- An `IDLE` step that changes a slot is a pass that evicts it. -/
theorem evicted_of_idle {x : State} {i : SlotIx} (hidle : x.nextInput = .idle)
    (hchange : x.stepped.pool.get i ≠ x.pool.get i) : evicts x x.stepped.ticks i = true ∧
      x.stepped.pool.get i = { note := 0#7, t0 := 0 } ∧ off x.cfg i ∈ x.stepped.writes := by
  have hgate : x.stepped.ticks % 1000 = 0 := by
    obtain ⟨-, -, hoff, -⟩ := tickEvent_spec x.beginStep
    rw [stepped_of_idle hidle] at hchange ⊢
    by_contra hgate
    rw [State.endStep_pool, hoff hgate] at hchange
    exact hchange rfl
  obtain ⟨hwrites, hslots⟩ := passEffect_of_gate hidle hgate
  have hold : evicts x x.stepped.ticks i = true := by
    by_contra hyoung
    exact hchange ((hslots i).trans (if_neg hyoung))
  refine ⟨hold, (hslots i).trans (if_pos hold), ?_⟩
  rw [hwrites]
  exact List.mem_map_of_mem (List.mem_filter.2 ⟨mem_slots i, hold⟩)

/-- Slot `i` stands after `k` steps as it stands in `s`. -/
def Keeps (s : State) (i : SlotIx) (k : Nat) : Prop := (State.stepped^[k] s).pool.get i = s.pool.get i

/-- If the slot does not stand through step `q`, there is a first step through which it does not. -/
theorem exists_first_change {s : State} {i : SlotIx} {q : Nat} (h : Keeps s i q → ¬ Keeps s i (q + 1)) :
    ∃ k ≤ q, (∀ j ≤ k, Keeps s i j) ∧ ¬ Keeps s i (k + 1) := by
  classical
  have hchange : ∃ n ≤ q + 1, ¬ Keeps s i n := by
    by_cases hq : Keeps s i q
    · exact ⟨q + 1, le_rfl, h hq⟩
    · exact ⟨q, q.le_succ, hq⟩
  obtain ⟨n, hn, hne⟩ := hchange
  have hfirst : ∃ n, ¬ Keeps s i n := ⟨n, hne⟩
  have hbound : Nat.find hfirst ≤ q + 1 := (Nat.find_min' hfirst hne).trans hn
  have hspec := Nat.find_spec hfirst
  have hmin : ∀ j < Nat.find hfirst, Keeps s i j := fun j hj => not_not.1 (Nat.find_min hfirst hj)
  generalize Nat.find hfirst = n at hbound hspec hmin
  cases n with
  | zero => exact absurd rfl hspec
  | succ k => exact ⟨k, Nat.le_of_succ_le_succ hbound, fun j hj => hmin j (Nat.lt_succ_of_le hj), hspec⟩

section HungNote

-- Slot `i` of `s` is occupied and has just been stamped, and no reset comes in `N` steps.
variable {s : State} {i : SlotIx} {N : Nat} (hnote : (s.pool.get i).note ≠ 0#7) (hstamp : (s.pool.get i).t0 = s.ticks)
  (hreset : Input.reset ∉ coming s N)
include hnote hstamp hreset

/-- While the slot stands, an `IDLE` step finds it as old as the number of `IDLE` steps, modulo the counter's range. -/
theorem evicts_iff {k : Nat} (hk : k < N) (hkeeps : Keeps s i k) (hidle : (State.stepped^[k] s).nextInput = .idle) :
    evicts (State.stepped^[k] s) (State.stepped^[k + 1] s).ticks i = true ↔
      4000 ≤ idles s (k + 1) % 2 ^ s.cfg.tickW := by
  rw [evicts, hkeeps, iterate_cfg, hstamp, ticks_of_idle_step hreset hk hidle, ageAt_add]
  simp [hnote]

/-- The slot does not stand beyond an `IDLE` step at the gate that finds it between 4000 and 4999 old. -/
theorem not_keeps_of_gate {q m : Nat} (hq : q < N) (hidle : (State.stepped^[q] s).nextInput = .idle)
    (hm : idles s (q + 1) = m) (hlow : 4000 ≤ m) (hhigh : m ≤ 4999)
    (hgate : (s.ticks + m) % 2 ^ s.cfg.tickW % 1000 = 0) (hkeeps : Keeps s i q) : ¬ Keeps s i (q + 1) := by
  have hrange := eight_thousand_lt_range s.cfg
  have hticks := ticks_of_idle_step hreset hq hidle
  have hage : 4000 ≤ idles s (q + 1) % 2 ^ s.cfg.tickW := by
    rw [hm, Nat.mod_eq_of_lt (by omega)]
    exact hlow
  have hold := (evicts_iff hnote hstamp hreset hq hkeeps hidle).2 hage
  rw [← hm, ← hticks] at hgate
  intro hstays
  rw [Keeps] at hstays
  rw [Function.iterate_succ_apply'] at hgate hold hstays
  obtain ⟨-, hslots⟩ := passEffect_of_gate hidle hgate
  rw [hslots, if_pos hold] at hstays
  exact hnote (congrArg Slot.note hstays).symm

end HungNote

/-- Settles O31: at the first step through which the slot does not stand, a byte has released it or stamped it anew, or a
pass has found it at least 4000 old; and it does not stand beyond the pass among the `IDLE` steps 4000 to 4999. -/
theorem hungNoteIsEvictedWithin4999IdleSteps : Obligations.HungNoteIsEvictedWithin4999IdleSteps := by
  intro s i N hreset hcount hnote hstamp
  obtain ⟨j, hpos, hle, hgate⟩ := exists_count_at_gate s.cfg (s.ticks + 3999)
  rw [Nat.add_assoc] at hgate
  obtain ⟨q, hq, hqidle, hm⟩ := exists_idle_step (m := 3999 + j) (by omega) (le_trans (by omega) hcount)
  obtain ⟨k, hkq, hkeeps, hchange⟩ := exists_first_change <|
    not_keeps_of_gate hnote hstamp hreset hq hqidle hm (by omega) (by omega) hgate
  have hk : k < N := Nat.lt_of_le_of_lt hkq hq
  refine ⟨k, hk, fun j hj => ⟨_, run_eq_iterate j s, hkeeps j hj⟩, _, _, run_eq_iterate k s, step_eq_stepped _, ?_⟩
  have hslot : (State.stepped^[k] s).pool.get i = s.pool.get i := hkeeps k le_rfl
  have hage := evicts_iff hnote hstamp hreset hk hslot
  rw [Keeps] at hchange
  rw [Function.iterate_succ_apply'] at hchange hage
  cases hu : (State.stepped^[k] s).nextInput with
  | byte b =>
    refine .inl ⟨b, rfl, hchange, ?_⟩
    rcases stepped_occupied_slot (x := State.stepped^[k] s) (hslot ▸ hnote) with hstays | hfreed | hstamped
    · exact absurd (hstays.trans hslot) hchange
    · exact .inl hfreed
    · exact .inr (hslot ▸ hstamped)
  | idle =>
    obtain ⟨hold, hcleared, hoff⟩ := evicted_of_idle hu (hslot ▸ hchange)
    have hlow : 4000 ≤ idles s (k + 1) := ((hage hu).1 hold).trans (Nat.mod_le _ _)
    have hhigh : idles s (k + 1) ≤ 4999 := (idles_mono s (Nat.succ_le_succ hkq)).trans (hm.le.trans (by omega))
    rw [iterate_cfg] at hoff
    exact .inr ⟨rfl, hlow, hhigh, hcleared, hoff⟩
  | reset => exact absurd (hu ▸ nextInput_mem_coming hk) hreset

end Sys2Proof.Machine
